-- ==== Sys2Proof/Word.lean ====
section
/-! DEFINITION. The words the card handles as bits: a byte of a frame or of a service message, a word of the
configuration image, the register of the frame check, and a station's place in the tables of eight. -/

namespace Sys2Proof

/-- One byte of a share frame (R2) or of a service port message (R172). -/
abbrev Byte := BitVec 8

/-- One 16-bit word of the configuration image (R163), or the 16-bit register of the frame check (R2). -/
abbrev Word := BitVec 16

/-- A station identity 1 to 8 (R24), held as its place 0 to 7. -/
abbrev Station := Fin 8

/-- The identity number 1 to 8 of a station. -/
abbrev Station.num (i : Station) : Nat := i.val + 1

end Sys2Proof
end

