-- ==== Sys2Proof/Syntax.lean ====
section
/-! DEFINITION. The commands of the card: one constructor of `Instr` for each row of spec/opcode_table.json, with the
operands that the event brings from outside the card (a lane, an input level, received bytes, a measurement). -/

namespace Sys2Proof

/-- The two lanes of the share link (Section 1). -/
inductive LaneId where
  | a | b
  deriving DecidableEq, Repr

/-- The ten strap pins in their four groups, each read as a binary number with its first pin as the most
significant bit (R162). -/
structure StrapPins where
  identity : BitVec 3
  strapSection : BitVec 2
  ratingClass : BitVec 4
  frequency : BitVec 1
  deriving DecidableEq, Repr

/-- One byte of a reception as the receiver samples it: its eight data bits, and whether its stop bit was sampled
active, which is a framing error (R1). -/
structure RxByte where
  value : Byte
  stopActive : Bool
  deriving DecidableEq, Repr

/-- A whole reception (R1): its bytes in order, and whether it ended part way through a byte. -/
structure Reception where
  bytes : List RxByte
  endsPartWay : Bool
  deriving DecidableEq, Repr

/-- What the front end measured over one 50 ms interval (R53), before the clamps of R55, with the two outcomes of
its self-check (R54). -/
structure Measurement where
  /-- The voltage reference stayed within its tolerance throughout the interval. -/
  referenceHeld : Bool
  /-- Every measuring channel completed its conversions within the interval. -/
  channelsDone : Bool
  p : Int
  q : Int
  frequency : Int
  voltage : Int
  deriving DecidableEq, Repr

/-- The three pulse outputs of the set sequencer (R77). -/
inductive SetPulse where
  | start | stop | opening
  deriving DecidableEq, Repr

/-- The two pulse outputs of a group channel (R116). -/
inductive GroupPulse where
  | trip | close
  deriving DecidableEq, Repr
/-- The commands, in the order of spec/opcode_table.json. A timer's expiry, an edge of an input, the end of a
reception and a request on the service port are each one command, taken whole. -/
inductive Instr where
  /-- POWER_ON (R165). Power-on, including the return of a supply that was out of range, puts the card in LOAD with
  every output released and every block set to its LOAD values. -/
  | powerOn
  /-- LOAD_READ_DONE (R166). When all 27 image words have been read, the loader judges the image, forms the
  configuration in use and the card enters LISTEN. -/
  | loadReadDone (straps : StrapPins) (image : List Word)
  /-- LOAD_TIMEOUT (R166). When 50 ms have passed in LOAD without the full image, the image is judged faulty, the
  configuration in use is formed and the card enters LISTEN. -/
  | loadTimeout (straps : StrapPins) (image : List Word)
  /-- LISTEN_TIMER_EXPIRY (R167). When the 1,000 ms listen timer expires, the card enters RUN. -/
  | listenTimerExpiry
  /-- RECEPTION_END (R8). When the lane goes idle at the end of a reception, the reception is discarded as broken
  or checked and dealt with as a good or a bad frame. -/
  | receptionEnd (lane : LaneId) (rx : Reception)
  /-- SEND_START (R4). A transmitter in DEFER enters SEND at the first instant the lane is idle and not STUCK. -/
  | sendStart (lane : LaneId)
  /-- FRAME_COMPLETE (R4). When the lane is idle after the last byte of a sent frame, the frame is complete and the
  transmitter takes its next frame or goes to IDLE. -/
  | frameComplete (lane : LaneId)
  /-- COLLISION (R5). Reading the lane active while driving it idle in SEND aborts the frame, counts a collision
  and starts a 12-bit jam. -/
  | collision (lane : LaneId)
  /-- JAM_END (R6). When the jam ends, the attempt count is increased and the pending frame is either dropped at
  the 8th collision or the transmitter goes to BACKOFF. -/
  | jamEnd (lane : LaneId)
  /-- BACKOFF_EXPIRY (R6). At the end of BACKOFF, the transmitter goes to DEFER. -/
  | backoffExpiry (lane : LaneId)
  /-- STUCK_ENTRY (R10). When the lane has been active continuously for more than 2 ms, it becomes STUCK, any
  reception is abandoned and a driver test may begin. -/
  | stuckEntry (lane : LaneId) (beganInSend : Bool)
  /-- DRIVER_TEST_LANE_IDLE (R7). If the lane returns to idle before the test timer expires, the transmitter goes
  to DISABLED and the LANE_x_DRIVER condition becomes active. -/
  | driverTestLaneIdle (lane : LaneId)
  /-- DRIVER_TEST_EXPIRY (R7). If the test timer expires with the lane still active, the transmitter stays ISOLATED
  and waits for the lane to be idle. -/
  | driverTestExpiry (lane : LaneId)
  /-- ISOLATED_LANE_IDLE (R7). An ISOLATED transmitter whose test has expired goes to DEFER or IDLE when the lane
  is next idle. -/
  | isolatedLaneIdle (lane : LaneId)
  /-- STUCK_END (R10). When the lane has been idle continuously for 10 ms, the STUCK condition ends. -/
  | stuckEnd (lane : LaneId)
  /-- ERROR_WINDOW_EXPIRY (R12). At each 1,000 ms error window expiry, the degraded condition is set or cleared
  against threshold T and the count is reset. -/
  | errorWindowExpiry (lane : LaneId)
  /-- SILENCE_TIMER_EXPIRY (R13). When a lane's 500 ms silence timer expires while the other lane's timer runs, the
  lane becomes silent. -/
  | silenceTimerExpiry (lane : LaneId)
  /-- FRAME_TIMER_EXPIRY (R15). Each 100 ms frame timer expiry is a periodic request, composed at once or held as
  waiting according to the spacing timer. -/
  | frameTimerExpiry
  /-- SPACING_TIMER_EXPIRY (R16). At the 10 ms spacing timer expiry, a waiting request is composed as URGENT or
  PERIODIC, and otherwise the timer stops. -/
  | spacingTimerExpiry
  /-- INTAKE (R22). The oldest frame of the receive queue is taken in at the peer table, at least 1 ms after the
  previous intake, and is accepted or counted as a dual copy or a late frame. -/
  | intake
  /-- ENTRY_TIMER_350 (R32). At 350 ms without an accepted frame, a LIVE entry becomes STALE. -/
  | entryTimer350 (station : Station)
  /-- ENTRY_TIMER_1000 (R33). At 1,000 ms without an accepted frame, a STALE entry is lost to PHANTOM or EMPTY and
  a QUALIFYING entry becomes EMPTY. -/
  | entryTimer1000 (station : Station)
  /-- LANES_HEARD_EXPIRY (R31). A lane drops out of an entry's lanes heard when 500 ms pass without a frame of that
  identity on it. -/
  | lanesHeardExpiry (station : Station) (lane : LaneId)
  /-- TIE_INPUT_CHANGE (R39). A tie input level that differs from its filtered state starts, or stops, that tie's
  50 ms filter timer. -/
  | tieInputChange (tie : Fin 3) (closed : Bool)
  /-- TIE_FILTER_EXPIRY (R39). When a tie filter expires, the filtered tie state changes and the island section
  set, the members and TIE_DISAGREE are recomputed. -/
  | tieFilterExpiry (tie : Fin 3)
  /-- RETURN_TIMER_EXPIRY (R50). When the return timer expires with no cause active, the sharing mode becomes ISOCH
  and DROOP is released. -/
  | returnTimerExpiry
  /-- METERING_INTERVAL_EXPIRY (R53). At each 50 ms interval end, the front end self-checks, forms and clamps a
  record, and discards it in warm-up or delivers it. -/
  | meteringIntervalExpiry (m : Measurement)
  /-- BREAKER_CLOSE_EDGE (R83). A BREAKER closing edge completes a start from STARTING, or adopts the set into
  LOADING from OFF, STANDBY, TRIPPED or START_FAILED. -/
  | breakerCloseEdge
  /-- BREAKER_OPEN_EDGE (R87). A BREAKER opening edge trips an online set with an own trip notice, or completes an
  opening with a STOP pulse. -/
  | breakerOpenEdge
  /-- RUNNING_EDGE (R82). A RUNNING edge in STARTING asserts or releases CLOSE PERMIT. -/
  | runningEdge (high : Bool)
  /-- AVAILABLE_EDGE (R80). An AVAILABLE edge moves the set between OFF and STANDBY, or from STARTING, TRIPPED or
  START_FAILED, as the table gives. -/
  | availableEdge (high : Bool)
  /-- UNLOAD_EDGE (R88). An UNLOAD rising edge is judged by the unload check in SHARING, set pending in LOADING,
  marks the unload MANUAL in UNLOADING, or is ignored. -/
  | unloadEdge (high : Bool)
  /-- START_TIMER_EXPIRY (R84). When the 90 s start timer expires in STARTING, the set enters START_FAILED, CLOSE
  PERMIT is released and START_FAIL is reported. -/
  | startTimerExpiry
  /-- UNLOAD_TIMER_EXPIRY (R92). When the 60 s unload timer expires in UNLOADING, the set returns to SHARING and
  UNLOAD_FAIL is reported. -/
  | unloadTimerExpiry
  /-- OPENING_TIMER_EXPIRY (R94). When the 2 s opening timer expires in OPENING, the set returns to SHARING and
  OPEN_FAIL is reported. -/
  | openingTimerExpiry
  /-- SET_PULSE_END (R77). A START, STOP or OPEN pulse ends and releases its output, and a STOP held back begins
  when START ends. -/
  | setPulseEnd (which : SetPulse)
  /-- EVALUATION (R97). Each 100 ms evaluation forms the start needs, gives the start-need notice, makes the start
  check and steps the stop counter with the stop check. -/
  | evaluation
  /-- TRIP_RECENT_TIMER_EXPIRY (R98). When the 5,000 ms trip-recent timer expires, it stops. -/
  | tripRecentTimerExpiry
  /-- FEEDBACK_EDGE (R111). A FEEDBACK edge sets its latch mark and, unless the group is INHIBITED, moves the group
  state as its rule gives. -/
  | feedbackEdge (group : Fin 6) (closed : Bool)
  /-- CONFIRMATION_WINDOW_EXPIRY (R113). When a pending group's 500 ms window expires unconfirmed, the group enters
  FAILED and GROUP_FAIL is reported. -/
  | confirmationWindowExpiry (group : Fin 6)
  /-- GROUP_PULSE_END (R116). A TRIP or CLOSE pulse ends after 200 ms, and a TRIP held back begins when the CLOSE
  pulse ends. -/
  | groupPulseEnd (group : Fin 6) (which : GroupPulse)
  /-- CLOSE_SPACING_EXPIRY (R114). When the 10,000 ms close spacing timer expires, it stops, allowing CLOSE pulses
  again. -/
  | closeSpacingExpiry
  /-- HANDOFF_TIMER_EXPIRY (R136). When a hand-off timer expires with its entry still CONNECTED, the key joins the
  skip set and the slow step continues on the next eligible entry. -/
  | handoffTimerExpiry
  /-- RESTORE_CHECK (R141). Each 1,000 ms restore check tests the guards and the 85 % limit and restores the last
  SHED candidate if it is own. -/
  | restoreCheck
  /-- ACTION_AGE_TICK (R130). Each 100 ms count timer expiry increases the own action age by 1, up to 255. -/
  | actionAgeTick
  /-- REQUEST_RISING (R152). A REQUEST rising edge in RUN on an IDLE claim opens it in CLAIMING with a window, or
  in WAITING with a waiting timer. -/
  | requestRising (consumer : Fin 2)
  /-- REQUEST_FALLING (R157). A REQUEST falling edge withdraws the claim to IDLE, opening GRANT and stopping its
  timers. -/
  | requestFalling (consumer : Fin 2)
  /-- CLAIM_WINDOW_EXPIRY (R153). At the end of its 300 ms window, a claim is granted, sent to WAITING or refused
  according to LINK_OK, fit and the out-of-time mark. -/
  | claimWindowExpiry (consumer : Fin 2)
  /-- RETEST_TIMER_EXPIRY (R154). Each 100 ms re-test moves a WAITING claim that fits with LINK_OK true to CLAIMING
  with a new window. -/
  | retestTimerExpiry
  /-- WAITING_TIMER_EXPIRY (R155). When the 120 s waiting timer expires, a WAITING claim is REFUSED and a CLAIMING
  claim gets its out-of-time mark. -/
  | waitingTimerExpiry (consumer : Fin 2)
  /-- HOLD_TIMER_EXPIRY (R156). When the 30 s hold timer expires, a GRANTED claim enters CONSUMING and leaves the
  frame list. -/
  | holdTimerExpiry (consumer : Fin 2)
  /-- CLAIM_AGE_TICK (R147). Each 100 ms age count timer expiry increases the claim age by 1, up to 255. -/
  | claimAgeTick (consumer : Fin 2)
  /-- SERVICE_GAP_EXPIRY (R173). When the 20 ms gap timer expires, a partial request is discarded, or RESYNC ends
  in IDLE or in a BAD_REQUEST reject after a bad length. -/
  | serviceGapExpiry
  /-- BAD_REQUEST (R174). A request with a bad check, kind or length is answered REJECT, BAD_REQUEST. -/
  | badRequest (bytes : List Byte)
  /-- RESPONSE_SENT (R175). When the last response byte is sent, the port counts any overrun and enters RESYNC or
  IDLE, and after RESTART the loader may enter LOAD. -/
  | responseSent
  /-- STATUS (R176). The STATUS request returns the card mode, configuration, set, island, regulator, ladder, duty
  and lane state. -/
  | status
  /-- PEER (R176). The PEER request returns one peer entry with its record and counters, or BAD_ARGUMENT for an
  identity outside 1 to 8. -/
  | peer (arg : Byte)
  /-- LADDER (R145). The LADDER request returns the ladder entries, relief, the step in flight and the held
  request. -/
  | ladder
  /-- CLAIMS (R161). The CLAIMS request returns the own claims and the island claims and headroom found at the last
  fit test. -/
  | claims
  /-- GROUPS (R121). The GROUPS request returns the state of the six group channels and the close spacing timer. -/
  | groups
  /-- ALARMS (R177). The ALARMS request returns whether each of the 18 alarm kinds is active and latched, and the
  ALARM relay state. -/
  | alarms
  /-- COUNTERS (R180). The COUNTERS request returns the 14 card counters. -/
  | counters
  /-- CLEAR_ALARMS (R179). CLEAR_ALARMS clears the latch of every inactive kind and lists the latches that remain
  set. -/
  | clearAlarms
  /-- CLEAR_COUNTERS (R180). CLEAR_COUNTERS sets the 14 counters and every entry counter to 0. -/
  | clearCounters
  /-- CLEAR_PHANTOM (R36). CLEAR_PHANTOM empties a PHANTOM entry, or is rejected with BAD_ARGUMENT or NOT_PHANTOM.
  -/
  | clearPhantom (arg : Byte)
  /-- INHIBIT (R119). INHIBIT moves a group to INHIBITED, or is rejected with BAD_ARGUMENT or GROUP_BUSY. -/
  | inhibit (arg : Byte)
  /-- ENABLE (R120). ENABLE sets an INHIBITED group from its feedback level and discards its latch marks. -/
  | enable (arg : Byte)
  /-- RESTART (R170). RESTART is accepted when the set is not online, putting a restart in progress, or is rejected
  with SET_ONLINE. -/
  | restart
  /-- SERVICE_BYTE_RECEIVED (R173). A byte received on the service port that does not complete a request is stored,
  sends the port to RESYNC on a stray byte or a bad length, restarts the gap timer, or sets the overrun mark while
  RESPONDING. -/
  | serviceByteReceived (byte : Byte)
  /-- RECEPTION_BEGINS (R1). At the first active level after the lane has been idle, and not STUCK, the receiver
  begins a reception and starts storing bytes. -/
  | receptionBegins (lane : LaneId)
  /-- LOSS_OF_POWER (R171). Supply voltage leaving the 18 to 32 V range is taken as a loss of power, and the card
  stops until the supply returns as a power-on. -/
  | lossOfPower
  deriving DecidableEq, Repr

end Sys2Proof
end

