-- ==== Sys2Proof/Config.lean ====
section
/-! DEFINITION. What the manual leaves open and the model keeps open: a constant without a body, of which nothing
can be proved. -/

namespace Sys2Proof.Config

/-- FREE VALUE (log entry 5). R176 sends a time remaining "in units of 10 ms" and does not say how a remainder of
less than 10 ms is treated: given the remaining time in microseconds, whether the count of whole units is raised
by one. It is read only where the time is not a whole number of units. -/
opaque roundTimeUp : Nat → Bool

/-- FREE VALUE (log entry 6). R176 sends the time since the last acceptance "in 10 ms units" and does not say how
a remainder is treated: whether the count of whole units is raised by one. -/
opaque roundAgeUp : Nat → Bool

/-- FREE VALUE (log entry 36). R19 measures the idle intervals of a lane from the entry to LISTEN, and the command table
has no command for a change of a lane's level. On a lane of which no command has shown the level since that entry, this
is whether the lane interface has seen it idle for 80 µs at the instant of the entry to RUN. -/
opaque laneSeenIdle : LaneId → Nat → Bool

end Sys2Proof.Config
end

