-- ==== Sys2Proof/Machine/State.lean ====
section
/-! DEFINITION. The state of one LATHIC 640 card: the blocks of the introduction's Section 3, each holding what its
own section says it holds, the input levels, the clock and the queue of commands. Times are whole microseconds. -/

namespace Sys2Proof.Machine

/-- A timer: the instant at which it expires, or none while it is stopped (00_scope 6.4). -/
abbrev Timer := Option Nat

/-! ### Names and records -/

/-- The card modes (10.3). -/
inductive CardMode where
  | load | listen | run | mute
  deriving DecidableEq, Repr

/-- The nine set states (R2, Section 5). -/
inductive SetState where
  | off | standby | starting | loading | sharing | unloading | opening | tripped | startFailed
  deriving DecidableEq, Repr

/-- The sharing mode (R49). -/
inductive SharingMode where
  | isoch | droop
  deriving DecidableEq, Repr

/-- The kind of a share frame, and of a request to the composer (R2, R15). -/
inductive FrameKind where
  | periodic | urgent
  deriving DecidableEq, Repr

/-- The command a FAILED group did not confirm (7.3). -/
inductive GroupCommand where
  | shed | restore
  deriving DecidableEq, Repr

/-- The seven group states as a frame carries them (R2). -/
inductive GroupCode where
  | connected | shedPending | shed | failed | restorePending | openExternal | inhibited
  deriving DecidableEq, Repr

/-- The group state of a channel: as `GroupCode`, with the command concerned while FAILED (7.3). -/
inductive GroupState where
  | connected | shedPending | shed | failed (command : GroupCommand) | restorePending | openExternal | inhibited
  deriving DecidableEq, Repr

/-- The claim states that frames list (R2). -/
inductive ClaimCode where
  | claiming | granted | waiting
  deriving DecidableEq, Repr

/-- The claim states (R146). -/
inductive ClaimState where
  | idle | claiming | granted | consuming | waiting | refused
  deriving DecidableEq, Repr

/-- The LINK_OK select (R14). -/
inductive LinkSelect where
  | selectA | selectB | any | both
  deriving DecidableEq, Repr

/-- One group entry of a frame or of a peer's record (R2). -/
structure GroupItem where
  index : Fin 6
  rank : Nat
  nominal : Nat
  state : GroupCode
  deriving DecidableEq, Repr

/-- One claim entry of a frame or of a peer's record (R2). -/
structure ClaimItem where
  index : Fin 2
  demand : Nat
  state : ClaimCode
  age : Nat
  deriving DecidableEq, Repr

/-- Which of TIE-1, TIE-2 and TIE-3 are taken as closed (R2, R39). -/
structure TieView where
  tie1 : Bool
  tie2 : Bool
  tie3 : Bool
  deriving DecidableEq, Repr

/-- The flags of a frame, bits 0 to 4 (R2). -/
structure FrameFlags where
  breakerClosed : Bool
  stale : Bool
  droop : Bool
  configFault : Bool
  unloadPending : Bool
  deriving DecidableEq, Repr

/-- The content of a frame that a peer entry keeps as its record (2.2): all of it but the kind, the identity, the
frame number and the check. -/
structure PeerRecord where
  islandSection : Nat
  startRank : Nat
  tieView : TieView
  setState : SetState
  flags : FrameFlags
  rating : Nat
  reactiveRating : Nat
  p : Int
  q : Int
  frequency : Nat
  actionAge : Nat
  groups : List GroupItem
  claims : List ClaimItem
  deriving DecidableEq, Repr

/-- One share frame (R2), less its sync bytes and its check, which follow from the rest. -/
structure Frame where
  kind : FrameKind
  station : Station
  number : Nat
  content : PeerRecord
  deriving DecidableEq, Repr

/-! ### Lane interfaces (Section 1) -/

/-- The transmitter states, in the order of the table of 1.3. -/
inductive TxState where
  | idle | defer | send | backoff | isolated | disabled
  deriving DecidableEq, Repr

/-- The lane healths, in the order of the table of R11. -/
inductive LaneHealth where
  | stuck | silent | degraded | ok
  deriving DecidableEq, Repr

/-- The model's own: what is known of when the lane is idle (R1), since the table has no command for a change of the
lane's level. -/
inductive Quiet where
  /-- The lane is not idle. -/
  | notIdle
  /-- The lane is idle at no instant before `earliest`; whether it was idle from then on is not known to the model
  (R19, log entry 36). -/
  | unseen (earliest : Nat)
  /-- The lane is idle from an instant on. -/
  | since (instant : Nat)
  deriving DecidableEq, Repr

/-- One lane interface: its transmitter (R3 to R7), its receiver (R1, R8, R9), its health conditions and timers
(R10 to R13) and its five counters (R19). -/
structure LaneIf where
  tx : TxState
  /-- The frame being sent or about to be sent. -/
  pendingFrame : Option Frame
  /-- The frame that waits behind a frame in SEND. -/
  nextFrame : Option Frame
  /-- Bytes of the pending frame completed in SEND (R4). -/
  byteCounter : Nat
  /-- Collisions of the pending frame (R5). -/
  attempts : Nat
  /-- The model's own: the instant SEND was entered, while the frame itself is being driven. -/
  sendStart : Option Nat
  /-- The 12-bit jam of R5, part of SEND. -/
  jam : Timer
  backoff : Timer
  /-- The 10 ms driver test timer; stopped in ISOLATED once the test has expired (R7). -/
  test : Timer
  /-- The model's own: when the lane is idle (R1). -/
  quietFrom : Quiet
  /-- A reception is in progress (R1). -/
  receiving : Bool
  /-- The model's own: the reception whose end is still to be taken ended a frame of this transmitter, completed at
  that same end of frame (R9). -/
  ownEnd : Bool
  stuck : Bool
  silent : Bool
  degraded : Bool
  /-- The error window count, 0 to 255 (R12). -/
  errorCount : Nat
  errorWindow : Timer
  silence : Timer
  goodFrames : Nat
  checkErrors : Nat
  collisions : Nat
  collisionDrops : Nat
  replaced : Nat
  deriving DecidableEq, Repr

/-! ### Frame composer (1.6) -/

structure Composer where
  frameTimer : Timer
  spacing : Timer
  /-- The waiting request, with its mark (R16). -/
  waiting : Option FrameKind
  nextNumber : Nat
  lastP : Int
  lastQ : Int
  lastFrequency : Nat
  arrival : Bool
  freshCount : Nat
  staleCount : Nat
  meterFail : Bool
  deriving DecidableEq, Repr

/-! ### Receive queue and peer table (Section 2) -/

structure RxQueue where
  /-- Checked peer frames with their lane tags, oldest first (R21). -/
  frames : List (LaneId × Frame)
  overruns : Nat
  /-- The instant of the previous intake (R22); none before the first since LOAD. -/
  lastIntake : Option Nat
  deriving DecidableEq, Repr

/-- The peer entry states (2.2). -/
inductive EntryState where
  | empty | qualifying | live | stale | phantom
  deriving DecidableEq, Repr

structure PeerEntry where
  state : EntryState
  lastNumber : Option Nat
  lastTime : Option Nat
  /-- The entry timer: the instant it last started from 0, none while stopped. Its expiries fall 350 ms and 1,000 ms
  after that instant (R32, R33). -/
  timerFrom : Option Nat
  qualifyCount : Nat
  record : Option PeerRecord
  previousSetState : Option SetState
  /-- For each lane, the end of the 500 ms for which it counts as heard (R31). -/
  heardA : Timer
  heardB : Timer
  lateFrames : Nat
  dualCopies : Nat
  deriving DecidableEq, Repr

structure PeerTable where
  entries : Vector PeerEntry 8
  /-- The card-wide counters (R37). -/
  lateFrames : Nat
  dualCopies : Nat
  deriving DecidableEq, Repr

/-! ### Island resolver (Section 3) -/

structure Island where
  /-- The own tie view (R39). -/
  tieView : TieView
  tieFilters : Vector Timer 3
  /-- The island section set, ascending (R40). -/
  sections : List Nat
  /-- The island members, ascending (R41). -/
  members : List Station
  /-- The own P and Q as the resolver holds them (R45). -/
  ownP : Int
  ownQ : Int
  pLoad : Int
  rCap : Nat
  qrCap : Nat
  online : Nat
  pPool : Int
  rPool : Nat
  qPool : Int
  qrPool : Nat
  frequency : Nat
  tieDisagree : Bool
  mode : SharingMode
  returnTimer : Timer
  /-- The DROOP output (R51). -/
  droopOut : Bool
  deriving DecidableEq, Repr

/-! ### Metering front end and share regulator (Section 4) -/

structure MeterRecord where
  p : Int
  q : Int
  frequency : Nat
  voltage : Nat
  busValid : Bool
  deriving DecidableEq, Repr

structure Metering where
  interval : Timer
  latest : Option MeterRecord
  warmUp : Nat
  deriving DecidableEq, Repr

structure Regulator where
  speedBias : Int
  voltBias : Int
  /-- The ramp target, none while unset. -/
  rampTarget : Option Int
  deriving DecidableEq, Repr

/-! ### Set sequencer (Section 5) and duty logic (Section 6) -/

/-- The unload kind, in the order of R176. -/
inductive UnloadKind where
  | none | manual | automatic
  deriving DecidableEq, Repr

structure Sequencer where
  state : SetState
  startTimer : Timer
  unloadTimer : Timer
  openingTimer : Timer
  pendingUnload : Bool
  unloadKind : UnloadKind
  /-- The pulse timers: an output is active while its timer runs (R77). -/
  startPulse : Timer
  stopPulse : Timer
  openPulse : Timer
  /-- A STOP pulse held back behind START (R77). -/
  stopHeld : Bool
  closePermit : Bool
  deriving DecidableEq, Repr

structure Duty where
  evaluation : Timer
  startNeed : Nat
  stopCounter : Nat
  tripRecent : Timer
  /-- The start needs and the start order as found at the last evaluation (R96). -/
  n1 : Bool
  n2 : Bool
  n3 : Bool
  n4 : Bool
  startOrder : List Station
  deriving DecidableEq, Repr

/-! ### Group channels (Section 7) and shed ladder (Section 8) -/

structure Channel where
  /-- The group state; none while the channel is not configured, and in LOAD. -/
  state : Option GroupState
  openingSeen : Bool
  closingSeen : Bool
  trip : Timer
  close : Timer
  tripHeld : Bool
  window : Timer
  deriving DecidableEq, Repr

structure Groups where
  channels : Vector Channel 6
  closeSpacing : Timer
  deriving DecidableEq, Repr

/-- The owner kind of a ladder entry (R126). -/
inductive OwnerKind where
  | own | live | stale
  deriving DecidableEq, Repr

/-- The key of a ladder entry (R126). -/
structure Key where
  station : Station
  index : Fin 6
  deriving DecidableEq, Repr

structure LadderEntry where
  station : Station
  index : Fin 6
  rank : Nat
  nominal : Nat
  state : GroupCode
  owner : OwnerKind
  deriving DecidableEq, Repr

/-- The guards of the restore check, in the order of R141. -/
inductive Guard where
  | countersClear | noStep | ageReached | noneStarting | noClaim | capacity
  deriving DecidableEq, Repr

structure Ladder where
  entries : List LadderEntry
  skip : List Key
  stageA : Nat
  stageB : Nat
  stageF : Nat
  /-- The key a slow step is in flight on. -/
  inFlight : Option Key
  handOff : Timer
  /-- A step request is held. -/
  held : Bool
  restoreTimer : Timer
  actionAge : Nat
  ageTimer : Timer
  /-- As found at the last restore check (R145). -/
  islandAge : Nat
  failedGuards : List Guard
  candidate : Option Key
  deriving DecidableEq, Repr

/-! ### Admission logic (Section 9) -/

structure Claim where
  state : ClaimState
  age : Nat
  ageTimer : Timer
  window : Timer
  waiting : Timer
  outOfTime : Bool
  hold : Timer
  /-- The GRANT output is closed. -/
  grant : Bool
  deriving DecidableEq, Repr

/-- One island claim (R148). -/
structure IslandClaim where
  station : Station
  index : Fin 2
  state : ClaimCode
  demand : Nat
  age : Nat
  deriving DecidableEq, Repr

structure Admission where
  claims : Vector Claim 2
  retest : Timer
  /-- The headroom and the island claims in precedence order, as found at the last fit test (R161). -/
  headroom : Int
  found : List IslandClaim
  deriving DecidableEq, Repr

/-! ### Configuration loader (Section 10) -/

/-- One group record (R110). -/
structure GroupRecord where
  index : Fin 6
  rank : Nat
  nominal : Nat
  sheddable : Bool
  deriving DecidableEq, Repr

/-- The configuration in use (R164). -/
structure Configuration where
  identity : Station
  ownSection : Nat
  fNom : Nat
  rating : Nat
  reactiveRating : Nat
  vNom : Nat
  kp : Nat
  kf : Nat
  kq : Nat
  kv : Nat
  rampStep : Nat
  startRank : Nat
  select : LinkSelect
  threshold : Nat
  groups : List GroupRecord
  demands : List Nat
  deriving DecidableEq, Repr

structure Loader where
  /-- The strap values as last read (R162). -/
  straps : StrapPins
  /-- The image as last read (R163). -/
  image : List Word
  /-- The place of the first image fault in the list of R163; 0 while the image is good. -/
  firstFault : Nat
  /-- The configuration in use; none in LOAD. -/
  config : Option Configuration
  mode : CardMode
  /-- The 50 ms allowed to LOAD (R166). -/
  loadTimer : Timer
  listenTimer : Timer
  restartInProgress : Bool
  deriving DecidableEq, Repr

/-! ### Service port and alarm list (Section 11) -/

/-- The service port's receive states (R173). -/
inductive PortState where
  | idle | receiving | responding | resync
  deriving DecidableEq, Repr

structure Service where
  state : PortState
  /-- The bytes of the request in progress. -/
  bytes : List Byte
  gap : Timer
  badLength : Bool
  overrun : Bool
  overruns : Nat
  /-- The response being sent, whole; empty outside RESPONDING. -/
  response : List Byte
  deriving DecidableEq, Repr

/-- The 18 alarm kinds, in the order of R177. -/
inductive AlarmKind where
  | laneA | laneB | laneADriver | laneBDriver | link | dupId | tieDisagree | phantom | meterFail | config
  | startFail | openFail | unloadFail | unloadRefused | shedExhausted | groupFail | claimRefused | rxOverrun
  deriving DecidableEq, Repr

structure Alarms where
  /-- The kinds whose latch is set, in the order of R177. -/
  latched : List AlarmKind
  /-- The ALARM relay is energised (R178). -/
  relay : Bool
  deriving DecidableEq, Repr

/-! ### The card -/

/-- The filtered levels of the discrete inputs, as they stand at the card's terminals (introduction, Section 2). -/
structure Pins where
  breaker : Bool
  running : Bool
  available : Bool
  unload : Bool
  ties : Vector Bool 3
  feedback : Vector Bool 6
  request : Vector Bool 2
  deriving DecidableEq, Repr

/-- The whole card. -/
structure State where
  /-- The model's clock, in microseconds. -/
  now : Nat
  /-- The supply is within its range (R171). -/
  powered : Bool
  pins : Pins
  laneA : LaneIf
  laneB : LaneIf
  linkOk : Bool
  composer : Composer
  rx : RxQueue
  peers : PeerTable
  island : Island
  metering : Metering
  regulator : Regulator
  seq : Sequencer
  duty : Duty
  groups : Groups
  ladder : Ladder
  admission : Admission
  loader : Loader
  service : Service
  alarms : Alarms
  /-- The commands that wait, first in, first out. -/
  pending : List Instr
  deriving DecidableEq, Repr

/-- No command of the table ends in a fault: the manual gives an effect, possibly none, to every event in every
state. The type has no constructor, so nothing can raise one: safe. -/
inductive Fault where
  deriving DecidableEq, Repr

/-- The refusals. -/
inductive Refusal where
  /-- Raised by an arm of `exec` for a command that has no meaning yet; no arm raises it. Safe: the model stops. -/
  | notModelled (mnemonic : String)
  deriving DecidableEq, Repr

/-! ### Reset -/

/-- A lane interface on entering LOAD (R19). -/
def LaneIf.reset : LaneIf :=
  { tx := .idle, pendingFrame := none, nextFrame := none, byteCounter := 0, attempts := 0, sendStart := none
    jam := none, backoff := none, test := none, quietFrom := .notIdle, receiving := false, ownEnd := false
    stuck := false, silent := false, degraded := false, errorCount := 0, errorWindow := none, silence := none
    goodFrames := 0, checkErrors := 0, collisions := 0, collisionDrops := 0, replaced := 0 }

/-- An entry that has become EMPTY (R24), with its two counters as given. -/
def PeerEntry.empty (late dual : Nat) : PeerEntry :=
  { state := .empty, lastNumber := none, lastTime := none, timerFrom := none, qualifyCount := 0, record := none
    previousSetState := none, heardA := none, heardB := none, lateFrames := late, dualCopies := dual }

/-- A group channel on entering LOAD (R123). -/
def Channel.reset : Channel :=
  { state := none, openingSeen := false, closingSeen := false, trip := none, close := none, tripHeld := false
    window := none }

/-- A claim on entering LOAD (R160). -/
def Claim.reset : Claim :=
  { state := .idle, age := 0, ageTimer := none, window := none, waiting := none, outOfTime := false, hold := none
    grant := false }

/-- The tie view of a card on entering LOAD: all three ties open (R39). -/
def TieView.allOpen : TieView := { tie1 := false, tie2 := false, tie3 := false }

/-- The card right after power-on: in LOAD, every block at the value its own section gives for the entry to LOAD
(R165). The strap values, the image and the input levels are the model's (log entries 1 and 2). -/
def State.reset : State :=
  { now := 0, powered := true
    pins := { breaker := false, running := false, available := false, unload := false
              ties := Vector.replicate 3 false, feedback := Vector.replicate 6 false
              request := Vector.replicate 2 false }
    laneA := LaneIf.reset, laneB := LaneIf.reset, linkOk := true
    composer := { frameTimer := none, spacing := none, waiting := none, nextNumber := 1, lastP := 0, lastQ := 0
                  lastFrequency := 0, arrival := false, freshCount := 0, staleCount := 0, meterFail := false }
    rx := { frames := [], overruns := 0, lastIntake := none }
    peers := { entries := Vector.replicate 8 (PeerEntry.empty 0 0), lateFrames := 0, dualCopies := 0 }
    island := { tieView := TieView.allOpen, tieFilters := Vector.replicate 3 none, sections := [], members := []
                ownP := 0, ownQ := 0, pLoad := 0, rCap := 0, qrCap := 0, online := 0, pPool := 0, rPool := 0
                qPool := 0, qrPool := 0, frequency := 0, tieDisagree := false, mode := .droop, returnTimer := none
                droopOut := true }
    metering := { interval := none, latest := none, warmUp := 4 }
    regulator := { speedBias := 0, voltBias := 0, rampTarget := none }
    seq := { state := .off, startTimer := none, unloadTimer := none, openingTimer := none, pendingUnload := false
             unloadKind := .none, startPulse := none, stopPulse := none, openPulse := none, stopHeld := false
             closePermit := false }
    duty := { evaluation := none, startNeed := 0, stopCounter := 0, tripRecent := none, n1 := false, n2 := false
              n3 := false, n4 := false, startOrder := [] }
    groups := { channels := Vector.replicate 6 Channel.reset, closeSpacing := none }
    ladder := { entries := [], skip := [], stageA := 0, stageB := 0, stageF := 0, inFlight := none, handOff := none
                held := false, restoreTimer := none, actionAge := 0, ageTimer := none, islandAge := 0
                failedGuards := [], candidate := none }
    admission := { claims := Vector.replicate 2 Claim.reset, retest := none, headroom := 0, found := [] }
    loader := { straps := { identity := 0, strapSection := 0, ratingClass := 0, frequency := 0 }, image := []
                firstFault := 0, config := none, mode := .load, loadTimer := some 50000, listenTimer := none
                restartInProgress := false }
    service := { state := .resync, bytes := [], gap := none, badLength := false, overrun := false, overruns := 0
                 response := [] }
    alarms := { latched := [], relay := false }
    pending := [] }

end Sys2Proof.Machine
end

