-- ==== Sys2Proof/Machine/Numbers.lean ====
section
/-! DEFINITION. The intervals, limits and arithmetic that the rules share: rounding and clamping (00_scope 6.3,
R61), saturating counters (R19, R37), and the way numbers are laid into bytes, most significant byte first (R2,
R176). -/

namespace Sys2Proof.Machine

/-! ### Intervals, in microseconds -/

/-- Milliseconds as microseconds. -/
def ms (n : Nat) : Nat := n * 1000

/-- One bit time at 250 kbit/s (R1): the step of the model's clock while no command waits (log entry 3). -/
def bitTime : Nat := 4
/-- One byte of a frame on the lane, 10 bit times (R1). -/
def byteTime : Nat := 40
/-- The lane is idle after 20 bit times of idle level (R1). -/
def idleTime : Nat := 80
/-- The jam of R5, 12 bit times. -/
def jamTime : Nat := 48
/-- R7: the driver test. -/
def driverTestTime : Nat := ms 10
/-- R12: the error window. -/
def errorWindowTime : Nat := ms 1000
/-- R13: the silence timer. -/
def silenceTime : Nat := ms 500
/-- R15: the frame timer. -/
def framePeriod : Nat := ms 100
/-- R16: the spacing timer. -/
def spacingTime : Nat := ms 10
/-- R22: the least time between two intakes. -/
def intakeGap : Nat := ms 1
/-- R32: the first expiry of an entry timer. -/
def staleTime : Nat := ms 350
/-- R33, R34: the second expiry of an entry timer. -/
def lossTime : Nat := ms 1000
/-- R29: the longest gap that counts toward qualification. -/
def qualifyGap : Nat := ms 250
/-- R31: how long a lane counts as heard. -/
def heardTime : Nat := ms 500
/-- R39: the tie filter. -/
def tieFilterTime : Nat := ms 50
/-- R50: the return timer. -/
def returnTime : Nat := ms 2000
/-- R53: the metering interval. -/
def meteringInterval : Nat := ms 50
/-- R81: the start timer, 90 s. -/
def startTime : Nat := ms 90000
/-- R90: the unload timer, 60 s. -/
def unloadTime : Nat := ms 60000
/-- R93: the opening timer, 2 s. -/
def openingTime : Nat := ms 2000
/-- R77: a START or a STOP pulse. -/
def enginePulse : Nat := ms 1000
/-- R77, R116: an OPEN, a TRIP or a CLOSE pulse. -/
def breakerPulse : Nat := ms 200
/-- R95: the evaluation timer. -/
def evaluationPeriod : Nat := ms 100
/-- R98: the trip-recent timer. -/
def tripRecentTime : Nat := ms 5000
/-- R112, R114: the confirmation window. -/
def confirmationTime : Nat := ms 500
/-- R114: the close spacing timer. -/
def closeSpacingTime : Nat := ms 10000
/-- R134: the hand-off timer. -/
def handOffTime : Nat := ms 1000
/-- R141: the restore timer. -/
def restorePeriod : Nat := ms 1000
/-- R130, R147: the count timers of the own action age and of a claim's age. -/
def agePeriod : Nat := ms 100
/-- R152: the claim window. -/
def claimWindowTime : Nat := ms 300
/-- R152: the waiting timer, 120 s. -/
def waitingTime : Nat := ms 120000
/-- R153: the hold timer, 30 s. -/
def holdTime : Nat := ms 30000
/-- R154: the re-test timer. -/
def retestPeriod : Nat := ms 100
/-- R166: the time allowed to LOAD. -/
def loadTime : Nat := ms 50
/-- R166: the listen timer. -/
def listenTime : Nat := ms 1000
/-- R173: the gap timer of the service port. -/
def gapTime : Nat := ms 20
/-- R6: the time in BACKOFF of a station after its `attempts`-th collision. -/
def backoffTime (own : Station) (attempts : Nat) : Nat := 300 * own.num + 1000 * attempts

/-! ### Arithmetic -/

/-- A counter that saturates at 65,535 (R19, R21, R37, R175). -/
def bump (n : Nat) : Nat := min 65535 (n + 1)

/-- A counter that saturates at 255 (R12, R18, R130, R147). -/
def bump8 (n : Nat) : Nat := min 255 (n + 1)

/-- `x` clamped to `lo` to `hi`. -/
def clampInt (lo hi x : Int) : Int := max lo (min hi x)

/-- `n / d` rounded to the nearest whole number, halves away from zero (00_scope 6.3). -/
def roundDiv (n : Int) (d : Nat) : Int :=
  if 0 ≤ n then (2 * n + d) / (2 * d) else -((2 * (-n) + d) / (2 * d))

/-- An error within its deadband is 0, and any other error is kept whole (R69). -/
def deadband (band : Int) (e : Int) : Int := if -band ≤ e ∧ e ≤ band then 0 else e

/-- A load as ten-thousandths of a rating, rounded and clamped to ±20,000 (R61, R62). -/
def perUnit (load : Int) (rating : Nat) : Int := clampInt (-20000) 20000 (roundDiv (load * 10000) rating)

/-! ### Numbers as bytes -/

/-- One byte. -/
def byteOf (n : Nat) : Byte := BitVec.ofNat 8 n

/-- Two bytes, most significant first. -/
def bytes16 (n : Nat) : List Byte := [byteOf (n / 256), byteOf n]

/-- A signed number in two bytes, two's complement. -/
def signed16 (x : Int) : List Byte := bytes16 (x % 65536).toNat

/-- A signed number in four bytes, two's complement. -/
def signed32 (x : Int) : List Byte :=
  let n := (x % 4294967296).toNat
  bytes16 (n / 65536) ++ bytes16 (n % 65536)

/-- The number that two bytes hold. -/
def word16 (high low : Byte) : Nat := high.toNat * 256 + low.toNat

/-- The signed number that two bytes hold. -/
def int16 (high low : Byte) : Int :=
  if word16 high low < 32768 then (word16 high low : Int) else (word16 high low : Int) - 65536

/-- A flag or a level as a byte (R176). -/
def flagByte (b : Bool) : Byte := if b then 1 else 0

/-- The sum of a message's bytes modulo 256 (R172). -/
def byteSum (bs : List Byte) : Byte := bs.foldl (· + ·) 0

end Sys2Proof.Machine
end

