-- ==== Sys2Proof/Machine/Operands.lean ====
section
/-! DEFINITION. What the bytes and words that come to the card mean: the share frame's layout and its check, both
ways (R2, R8), the request of the service port (R172, R174), and the straps and the configuration image (R162 to
R164). -/

namespace Sys2Proof.Machine

/-! ### Codes -/

/-- The set state codes of a frame's byte 7 (R2). -/
def SetState.code : SetState → Nat
  | .off => 0 | .standby => 1 | .starting => 2 | .loading => 3 | .sharing => 4
  | .unloading => 5 | .opening => 6 | .tripped => 7 | .startFailed => 8

/-- The set state of a code. -/
def SetState.ofCode : Nat → Option SetState
  | 0 => some .off | 1 => some .standby | 2 => some .starting | 3 => some .loading | 4 => some .sharing
  | 5 => some .unloading | 6 => some .opening | 7 => some .tripped | 8 => some .startFailed | _ => none

/-- Online (00_scope 5): LOADING, SHARING, UNLOADING or OPENING. -/
def SetState.online : SetState → Bool
  | .loading | .sharing | .unloading | .opening => true
  | .off | .standby | .starting | .tripped | .startFailed => false

/-- The states in which RESTART is accepted (R170). -/
def SetState.restartable : SetState → Bool
  | .off | .standby | .tripped | .startFailed => true
  | .starting | .loading | .sharing | .unloading | .opening => false

/-- The kind codes of a frame's byte 2 (R2). -/
def FrameKind.code : FrameKind → Nat
  | .periodic => 1 | .urgent => 2

/-- The frame kind of a code. -/
def FrameKind.ofCode : Nat → Option FrameKind
  | 1 => some .periodic | 2 => some .urgent | _ => none

/-- The group state codes (R2). -/
def GroupCode.code : GroupCode → Nat
  | .connected => 0 | .shedPending => 1 | .shed => 2 | .failed => 3
  | .restorePending => 4 | .openExternal => 5 | .inhibited => 6

/-- The group state of a code. -/
def GroupCode.ofCode : Nat → Option GroupCode
  | 0 => some .connected | 1 => some .shedPending | 2 => some .shed | 3 => some .failed
  | 4 => some .restorePending | 5 => some .openExternal | 6 => some .inhibited | _ => none

/-- The code a frame carries for a group state: 3 for FAILED whatever its command (R117). -/
def GroupState.frameCode : GroupState → GroupCode
  | .connected => .connected | .shedPending => .shedPending | .shed => .shed | .failed _ => .failed
  | .restorePending => .restorePending | .openExternal => .openExternal | .inhibited => .inhibited

/-- The claim state codes of a frame (R2). -/
def ClaimCode.code : ClaimCode → Nat
  | .claiming => 1 | .granted => 2 | .waiting => 3

/-- The claim state of a code. -/
def ClaimCode.ofCode : Nat → Option ClaimCode
  | 1 => some .claiming | 2 => some .granted | 3 => some .waiting | _ => none

/-- The code under which a frame lists a claim; none for a state that is not listed (R146). -/
def ClaimState.listed : ClaimState → Option ClaimCode
  | .claiming => some .claiming | .granted => some .granted | .waiting => some .waiting
  | .idle | .consuming | .refused => none

/-- The claim state codes of the CLAIMS response (R176). -/
def ClaimState.code : ClaimState → Nat
  | .idle => 0 | .claiming => 1 | .granted => 2 | .waiting => 3 | .consuming => 4 | .refused => 5

/-! ### The frame check (R2) -/

/-- One data bit into the check register: a shift toward the most significant end, and the polynomial where the bit
shifted out differs from the data bit. -/
def crcBit (r : Word) (bit : Bool) : Word :=
  if r.msb != bit then (r <<< 1) ^^^ 0x1021#16 else r <<< 1

/-- One byte into the check register, its most significant bit first. -/
def crcByte (r : Word) (b : Byte) : Word :=
  [7, 6, 5, 4, 3, 2, 1, 0].foldl (fun r k => crcBit r (b.getLsbD k)) r

/-- The check over the covered bytes, from all ones. -/
def crc (bs : List Byte) : Word := bs.foldl crcByte 0xFFFF#16

/-! ### The share frame (R2) -/

/-- The tie view as byte 6 carries it. -/
def TieView.toByte (v : TieView) : Nat := v.tie1.toNat + 2 * v.tie2.toNat + 4 * v.tie3.toNat

/-- The tie view of byte 6; bits 3 to 7 are not looked at. -/
def TieView.ofByte (b : Byte) : TieView :=
  { tie1 := b.getLsbD 0, tie2 := b.getLsbD 1, tie3 := b.getLsbD 2 }

/-- The flags as byte 8 carries them. -/
def FrameFlags.toByte (f : FrameFlags) : Nat :=
  f.breakerClosed.toNat + 2 * f.stale.toNat + 4 * f.droop.toNat + 8 * f.configFault.toNat
    + 16 * f.unloadPending.toNat

/-- The flags of byte 8; bits 5 to 7 are not looked at. -/
def FrameFlags.ofByte (b : Byte) : FrameFlags :=
  { breakerClosed := b.getLsbD 0, stale := b.getLsbD 1, droop := b.getLsbD 2, configFault := b.getLsbD 3
    unloadPending := b.getLsbD 4 }

/-- A group entry's four bytes. -/
def GroupItem.bytes (g : GroupItem) : List Byte :=
  byteOf (16 * g.index.val + g.rank) :: bytes16 g.nominal ++ [byteOf g.state.code]

/-- A claim entry's five bytes. -/
def ClaimItem.bytes (c : ClaimItem) : List Byte :=
  byteOf c.index.val :: bytes16 c.demand ++ [byteOf c.state.code, byteOf c.age]

/-- The length of a frame with `g` group entries and `c` claim entries. -/
def frameLength (g c : Nat) : Nat := 23 + 4 * g + 5 * c

/-- The bytes the check covers: byte 2 up to the byte before the check. -/
def Frame.covered (f : Frame) : List Byte :=
  let r := f.content
  [byteOf f.kind.code, byteOf f.station.num, byteOf f.number, byteOf (16 * r.startRank + r.islandSection)
  , byteOf r.tieView.toByte, byteOf r.setState.code, byteOf r.flags.toByte]
  ++ bytes16 r.rating ++ bytes16 r.reactiveRating ++ signed16 r.p ++ signed16 r.q ++ bytes16 r.frequency
  ++ [byteOf r.actionAge, byteOf (16 * r.claims.length + r.groups.length)]
  ++ r.groups.flatMap GroupItem.bytes ++ r.claims.flatMap ClaimItem.bytes

/-- The whole frame as the transmitter drives it. -/
def Frame.bytes (f : Frame) : List Byte := 0xC3#8 :: 0x3C#8 :: f.covered ++ bytes16 (crc f.covered).toNat

/-- The number of bytes of a frame. -/
def Frame.length (f : Frame) : Nat := frameLength f.content.groups.length f.content.claims.length

/-- The values of the layout table that the types do not already hold, and no index twice in a list (R2, R8). -/
abbrev PeerRecord.Good (r : PeerRecord) : Prop :=
  (1 ≤ r.islandSection ∧ r.islandSection ≤ 4) ∧ (1 ≤ r.startRank ∧ r.startRank ≤ 8)
  ∧ (100 ≤ r.rating ∧ r.rating ≤ 25000) ∧ (100 ≤ r.reactiveRating ∧ r.reactiveRating ≤ 20000)
  ∧ (-32000 ≤ r.p ∧ r.p ≤ 32000) ∧ (-32000 ≤ r.q ∧ r.q ≤ 32000)
  ∧ (r.frequency = 0 ∨ (40000 ≤ r.frequency ∧ r.frequency ≤ 65535)) ∧ r.actionAge ≤ 255
  ∧ r.groups.length ≤ 6 ∧ r.claims.length ≤ 2
  ∧ (∀ g ∈ r.groups, (1 ≤ g.rank ∧ g.rank ≤ 15) ∧ (1 ≤ g.nominal ∧ g.nominal ≤ 20000))
  ∧ (∀ c ∈ r.claims, (1 ≤ c.demand ∧ c.demand ≤ 20000) ∧ c.age ≤ 255)
  ∧ (r.groups.map (·.index)).Nodup ∧ (r.claims.map (·.index)).Nodup

/-- A frame whose every field lies within the layout table. -/
abbrev Frame.Good (f : Frame) : Prop := (1 ≤ f.number ∧ f.number ≤ 255) ∧ f.content.Good

/-- Reads `n` group entries off the front of the bytes. -/
def takeGroups : Nat → List Byte → Option (List GroupItem × List Byte)
  | 0, bs => some ([], bs)
  | n + 1, a :: h :: l :: s :: bs => do
    let state ← GroupCode.ofCode s.toNat
    if hi : a.toNat / 16 < 6 then
      let (gs, rest) ← takeGroups n bs
      some ({ index := ⟨a.toNat / 16, hi⟩, rank := a.toNat % 16, nominal := word16 h l, state } :: gs, rest)
    else none
  | _ + 1, _ => none

/-- Reads `n` claim entries off the front of the bytes. -/
def takeClaims : Nat → List Byte → Option (List ClaimItem × List Byte)
  | 0, bs => some ([], bs)
  | n + 1, i :: h :: l :: s :: a :: bs => do
    let state ← ClaimCode.ofCode s.toNat
    if hi : i.toNat < 2 then
      let (cs, rest) ← takeClaims n bs
      some ({ index := ⟨i.toNat, hi⟩, demand := word16 h l, state, age := a.toNat } :: cs, rest)
    else none
  | _ + 1, _ => none

/-- The station of an identity number 1 to 8. -/
def stationOf (n : Nat) : Option Station := if h : 1 ≤ n ∧ n ≤ 8 then some ⟨n - 1, by omega⟩ else none

/-- The receiver's check of a reception that is not broken (R8): the frame, or none when it is bad. -/
def parseFrame (bs : List Byte) : Option Frame :=
  match bs with
  | s0 :: s1 :: kind :: ident :: number :: place :: tie :: set :: flags :: r1 :: r0 :: x1 :: x0 :: p1 :: p0
      :: q1 :: q0 :: f1 :: f0 :: age :: counts :: rest => do
    let g := counts.toNat % 16
    let c := counts.toNat / 16
    guard (s0 = 0xC3#8 ∧ s1 = 0x3C#8 ∧ g ≤ 6 ∧ c ≤ 2 ∧ bs.length = frameLength g c)
    let kind ← FrameKind.ofCode kind.toNat
    let station ← stationOf ident.toNat
    let setState ← SetState.ofCode set.toNat
    let (groups, rest) ← takeGroups g rest
    let (claims, rest) ← takeClaims c rest
    guard (rest = bytes16 (crc ((bs.drop 2).take (bs.length - 4))).toNat)
    let f : Frame :=
      { kind, station, number := number.toNat
        content := { islandSection := place.toNat % 16, startRank := place.toNat / 16, tieView := TieView.ofByte tie
                     setState, flags := FrameFlags.ofByte flags, rating := word16 r1 r0
                     reactiveRating := word16 x1 x0, p := int16 p1 p0, q := int16 q1 q0, frequency := word16 f1 f0
                     actionAge := age.toNat, groups, claims } }
    guard f.Good
    some f
  | _ => none

/-- A reception is broken when a byte of it has a framing error or it ends part way through a byte (R1). -/
def receptionBroken (rx : Reception) : Bool := rx.endsPartWay || rx.bytes.any (·.stopActive)

/-! ### Requests of the service port (R172, R174) -/

/-- The check byte that brings the sum of a message to 0 modulo 256. -/
def withCheck (bs : List Byte) : List Byte := bs ++ [0 - byteSum bs]

/-- The bytes of a request of a kind, with its argument byte where the kind has one. -/
def requestBytes (kind : Nat) (arg : List Byte) : List Byte :=
  withCheck (0x6D#8 :: byteOf (4 + arg.length) :: byteOf kind :: arg)

/-- The length that R172 gives for a kind; none for a number that is no kind. -/
def requestLength : Nat → Option Nat
  | 2 | 10 | 11 | 12 => some 5
  | 1 | 3 | 4 | 5 | 6 | 7 | 8 | 9 | 13 => some 4
  | _ => none

/-- The form R174 asks for: the check holds, the kind is one of 1 to 13, and the length is that kind's. -/
def requestFormGood (bs : List Byte) : Bool :=
  byteSum bs = 0#8 && requestLength (bs.getD 2 0).toNat == some bs.length

/-! ### Straps and image (R162 to R164) -/

/-- The strap rating of a rating class (R162). -/
def strapRating (c : BitVec 4) : Nat :=
  [1000, 1500, 2000, 2500, 3000, 4000, 5000, 6000, 7000, 8000, 9000, 10000, 11000, 12000, 14000, 16000].getD c.toNat 0

/-- The nominal frequency of the frequency strap (R162). -/
def strapFrequency (b : BitVec 1) : Nat := if b.toNat = 0 then 50000 else 60000

/-- The strap identity (R162). -/
def strapIdentity (b : BitVec 3) : Station := ⟨b.toNat, b.isLt⟩

/-- The strap section (R162). -/
def strapSectionOf (b : BitVec 2) : Nat := b.toNat + 1

/-- Word `i` of the image. -/
def imageWord (im : List Word) (i : Nat) : Nat := (im.getD i 0).toNat

/-- The high byte of word `i`. -/
def imageHigh (im : List Word) (i : Nat) : Nat := imageWord im i / 256

/-- The low byte of word `i`. -/
def imageLow (im : List Word) (i : Nat) : Nat := imageWord im i % 256

/-- The two words of each used group slot (R163). -/
def usedSlots (im : List Word) : List (Nat × Nat) :=
  (List.range (min 6 (imageHigh im 11))).map fun k => (imageWord im (12 + 2 * k), imageWord im (13 + 2 * k))

/-- The demand words of the counted consumers (R163). -/
def usedDemands (im : List Word) : List Nat :=
  (List.range (min 2 (imageLow im 11))).map fun k => imageWord im (24 + k)

/-- `x` lies within `lo` to `hi`. -/
def within (lo hi x : Nat) : Bool := lo ≤ x && x ≤ hi

/-- Every other field named in the table of R163 lies within its values. -/
def imageFieldsGood (im : List Word) : Bool :=
  within 1 4 (imageWord im 2) && within 100 25000 (imageWord im 3) && within 100 20000 (imageWord im 4)
  && within 400 15000 (imageWord im 5) && within 5 200 (imageWord im 8) && within 1 8 (imageHigh im 9)
  && within 0 3 (imageLow im 9) && within 1 255 (imageLow im 10) && within 0 6 (imageHigh im 11)
  && within 0 2 (imageLow im 11)
  && (usedSlots im).all (fun (a, b) => within 0 5 (a / 4096) && within 1 15 (a / 256 % 16) && within 1 20000 b)
  && (usedDemands im).all (within 1 20000)

/-- The place of the first fault of an image in the list of R163, or 0 for a good image. -/
def firstFaultOf (im : List Word) : Nat :=
  if im.length ≠ 27 then 1
  else if (im.foldl (fun n w => n + w.toNat) 0) % 65536 ≠ 0 then 2
  else if imageWord im 0 ≠ 1 then 3
  else if 1 < imageHigh im 1 ∨ (imageHigh im 1 = 1 ∧ ¬ within 1 8 (imageLow im 1)) then 4
  else if ¬ imageFieldsGood im then 5
  else if ¬ ((usedSlots im).map (fun s => s.1 / 4096)).Nodup then 6
  else 0

/-- The group record of a used slot (R110, R163). -/
def slotRecord (s : Nat × Nat) : GroupRecord :=
  { index := Fin.ofNat 6 (s.1 / 4096), rank := s.1 / 256 % 16, nominal := s.2, sheddable := s.1 % 2 = 1 }

/-- The LINK_OK select of its code (R163). -/
def LinkSelect.ofCode : Nat → LinkSelect
  | 0 => .selectA | 1 => .selectB | 2 => .any | _ => .both

/-- The code of a LINK_OK select (R163). -/
def LinkSelect.code : LinkSelect → Nat
  | .selectA => 0 | .selectB => 1 | .any => 2 | .both => 3

/-- The configuration of a card whose image is faulty (R164). -/
def strapConfiguration (st : StrapPins) : Configuration :=
  { identity := strapIdentity st.identity, ownSection := strapSectionOf st.strapSection
    fNom := strapFrequency st.frequency, rating := strapRating st.ratingClass
    reactiveRating := (roundDiv (3 * strapRating st.ratingClass) 4).toNat, vNom := 6600
    kp := 64, kf := 32, kq := 48, kv := 24, rampStep := 25, startRank := 8, select := .any, threshold := 8
    groups := [], demands := [] }

/-- The configuration of a card whose image is good (R164). -/
def imageConfiguration (st : StrapPins) (im : List Word) : Configuration :=
  { identity := if imageHigh im 1 = 1 then Fin.ofNat 8 (imageLow im 1 - 1) else strapIdentity st.identity
    ownSection := imageWord im 2, fNom := strapFrequency st.frequency, rating := imageWord im 3
    reactiveRating := imageWord im 4, vNom := imageWord im 5, kp := imageHigh im 6, kf := imageLow im 6
    kq := imageHigh im 7, kv := imageLow im 7, rampStep := imageWord im 8, startRank := imageHigh im 9
    select := LinkSelect.ofCode (imageLow im 9), threshold := imageLow im 10
    groups := (usedSlots im).map slotRecord, demands := usedDemands im }

/-- The configuration in use, formed at the end of LOAD (R164). -/
def formConfiguration (st : StrapPins) (im : List Word) : Configuration :=
  if firstFaultOf im = 0 then imageConfiguration st im else strapConfiguration st

end Sys2Proof.Machine
end

