-- ==== Sys2Proof/Machine/Ops.lean ====
section
/-! DEFINITION. The named operations over the state that every block uses: its tables' entries, its timers and the
clock, and the configuration in use. -/

namespace Sys2Proof.Machine

/-! ### Reading and writing the tables -/

/-- The lane interface of a lane. -/
def State.lane (s : State) : LaneId → LaneIf
  | .a => s.laneA
  | .b => s.laneB

/-- Replaces one lane interface. -/
def State.setLane (s : State) (l : LaneId) (x : LaneIf) : State :=
  match l with
  | .a => { s with laneA := x }
  | .b => { s with laneB := x }

/-- The lane that is not `l`. -/
def otherLane : LaneId → LaneId
  | .a => .b
  | .b => .a

/-- The peer entry of a station. -/
def State.entry (s : State) (i : Station) : PeerEntry := s.peers.entries[i]

/-- Replaces one peer entry. -/
def State.setEntry (s : State) (i : Station) (e : PeerEntry) : State :=
  { s with peers := { s.peers with entries := s.peers.entries.set i e } }

/-- A group channel. -/
def State.channel (s : State) (i : Fin 6) : Channel := s.groups.channels[i]

/-- Replaces one group channel. -/
def State.setChannel (s : State) (i : Fin 6) (c : Channel) : State :=
  { s with groups := { s.groups with channels := s.groups.channels.set i c } }

/-- The claim of a consumer channel. -/
def State.claim (s : State) (n : Fin 2) : Claim := s.admission.claims[n]

/-- Replaces one claim. -/
def State.setClaim (s : State) (n : Fin 2) (c : Claim) : State :=
  { s with admission := { s.admission with claims := s.admission.claims.set n c } }

/-! ### The configuration in use -/

/-- Stands for the configuration in LOAD, where none is in use and no rule reads it. -/
def blankConfiguration : Configuration :=
  strapConfiguration { identity := 0, strapSection := 0, ratingClass := 0, frequency := 0 }

/-- The configuration in use (R164). -/
def State.conf (s : State) : Configuration := s.loader.config.getD blankConfiguration

/-- The own identity in use (R164). -/
def State.own (s : State) : Station := s.conf.identity

/-- The group record of a channel; none for a channel that is not configured (R110). -/
def State.groupRecord (s : State) (i : Fin 6) : Option GroupRecord := s.conf.groups.find? (fun g => g.index = i)

/-- The demand of a consumer channel; none for a channel that is not configured (R146). -/
def State.demand (s : State) (n : Fin 2) : Option Nat := s.conf.demands[n.val]?

/-- The card mode (10.3). -/
def State.mode (s : State) : CardMode := s.loader.mode

/-- The card has its supply and is past LOAD, so that its blocks take their events (R165, R171). -/
def State.awake (s : State) : Bool := s.powered && s.mode != .load

/-- The card is in RUN. -/
def State.inRun (s : State) : Bool := decide (s.mode = CardMode.run)

/-! ### Timers and the clock -/

/-- A timer started from 0 that expires `us` microseconds from now. -/
def State.after (s : State) (us : Nat) : Timer := some (s.now + us)

/-- The time left on a timer, 0 while it is stopped. -/
def State.remaining (s : State) (t : Timer) : Nat :=
  match t with
  | none => 0
  | some d => d - s.now

/-- The byte counter of a transmitter at an instant: the bytes of the pending frame completed since SEND was
entered (R4). -/
def LaneIf.countBytes (l : LaneIf) (now : Nat) : LaneIf :=
  match l.sendStart, l.pendingFrame with
  | some t, some f => { l with byteCounter := min f.length ((now - t) / byteTime) }
  | _, _ => l

/-- Moves the clock on to an instant; the clock never goes back. -/
def State.advanceTo (s : State) (t : Nat) : State :=
  let now := max s.now t
  { s with now, laneA := s.laneA.countBytes now, laneB := s.laneB.countBytes now }

/-- The outcome of a command. -/
abbrev Result := Host.Outcome State Fault Refusal

/-- An event that only a card past LOAD takes; in LOAD and without supply nothing happens (R165, R171). -/
def whileAwake (s : State) (f : State → State) : Result := .next (if s.awake then f s else s)

/-- A timer's expiry. The expiry of a stopped timer does not occur (00_scope 6.4); that of a running timer falls at
its own instant, to which the clock moves (log entry 3). -/
def onExpiry (s : State) (t : Timer) (f : State → State) : Result :=
  match t with
  | none => .next s
  | some d => .next (if s.awake then f (s.advanceTo d) else s)

end Sys2Proof.Machine
end

