-- ==== Sys2Proof/Machine/Flags.lean ====
section
/-! DEFINITION. The conditions the card reports of itself: lane health (R11), LINK_OK (R14), the 18 alarm kinds with
their latches (R177) and the ALARM relay (R178). -/

namespace Sys2Proof.Machine

/-- A lane's health, judged from its three conditions in the order of R11. -/
def LaneIf.health (l : LaneIf) : LaneHealth :=
  if l.stuck then .stuck else if l.silent then .silent else if l.degraded then .degraded else .ok

/-- LINK_OK for a select and the two lane healths (R14). -/
def linkOkOf : LinkSelect → LaneHealth → LaneHealth → Bool
  | .selectA, a, _ => a == .ok
  | .selectB, _, b => b == .ok
  | .any, a, b => a == .ok || b == .ok
  | .both, a, b => a == .ok && b == .ok

/-- The alarm kinds in the order of R177. -/
def AlarmKind.all : List AlarmKind :=
  [.laneA, .laneB, .laneADriver, .laneBDriver, .link, .dupId, .tieDisagree, .phantom, .meterFail, .config
  , .startFail, .openFail, .unloadFail, .unloadRefused, .shedExhausted, .groupFail, .claimRefused, .rxOverrun]

/-- The place of a kind in the list of R177. -/
def AlarmKind.place (k : AlarmKind) : Nat := AlarmKind.all.idxOf k

/-- Some peer entry is PHANTOM (R25). -/
def State.anyPhantom (s : State) : Bool := s.peers.entries.toList.any (fun e => e.state == .phantom)

/-- The card runs on a faulty image (R164). -/
def State.configFault (s : State) : Bool := s.loader.config.isSome && s.loader.firstFault != 0

/-- Whether an alarm kind is active: a condition while its owner reports it so, an event never (R177). -/
def State.active (s : State) : AlarmKind → Bool
  | .laneA => s.laneA.health != .ok
  | .laneB => s.laneB.health != .ok
  | .laneADriver => s.laneA.tx == .disabled
  | .laneBDriver => s.laneB.tx == .disabled
  | .link => !s.linkOk
  | .dupId => s.mode == .mute
  | .tieDisagree => s.island.tieDisagree
  | .phantom => s.anyPhantom
  | .meterFail => s.composer.meterFail
  | .config => s.configFault
  | .startFail | .openFail | .unloadFail | .unloadRefused | .shedExhausted | .groupFail | .claimRefused
  | .rxOverrun => false

/-- Sets the latches to those kinds that satisfy `p`; the relay is energised while every latch is clear (R178). -/
def State.latchThose (s : State) (p : AlarmKind → Bool) : State :=
  let latched := AlarmKind.all.filter p
  { s with alarms := { latched, relay := latched.isEmpty } }

/-- Reports an event to the alarm list: its latch sets (R177). -/
def State.raise (s : State) (k : AlarmKind) : State :=
  s.latchThose (fun x => s.alarms.latched.contains x || x == k)

/-- LINK_OK as it follows from the lane healths and the select (R14). -/
def State.relink (s : State) : State :=
  { s with linkOk := linkOkOf s.conf.select s.laneA.health s.laneB.health }

/-- Takes up the conditions as they stand: LINK_OK is recomputed, and the latch of every active kind sets (R14,
R177). A latch already set stays set. -/
def State.syncAlarms (s : State) : State :=
  let s := s.relink
  s.latchThose (fun x => s.alarms.latched.contains x || s.active x)

/-- CLEAR_ALARMS: the latch of every kind that is not active clears (R179). -/
def State.clearLatches (s : State) : State := s.latchThose (fun x => s.alarms.latched.contains x && s.active x)

end Sys2Proof.Machine
end

