-- ==== Sys2Proof/Machine/IslandOps.lean ====
section
/-! DEFINITION. The island resolver: sections, members, the island quantities and the sharing mode, recomputed whole
from what they are made of (R39 to R51). -/

namespace Sys2Proof.Machine

/-- Tie `k` of the view, which joins sections `k` and `k + 1`. -/
def TieView.closed (v : TieView) : Nat → Bool
  | 1 => v.tie1
  | 2 => v.tie2
  | 3 => v.tie3
  | _ => false

/-- Sets the filtered state of a tie. -/
def TieView.set (v : TieView) (tie : Fin 3) (closed : Bool) : TieView :=
  match tie with
  | 0 => { v with tie1 := closed }
  | 1 => { v with tie2 := closed }
  | 2 => { v with tie3 := closed }

/-- The filtered state of a tie input. -/
def TieView.at (v : TieView) (tie : Fin 3) : Bool := v.closed (tie.val + 1)

/-- The island section set, ascending: every section that is joined to the own section by closed ties only (R40). -/
def islandSections (own : Nat) (v : TieView) : List Nat :=
  [1, 2, 3, 4].filter fun x => [1, 2, 3].all fun k => (min own x ≤ k ∧ k < max own x) → v.closed k

/-- The eight stations, ascending. -/
def stations : List Station := List.finRange 8

/-- A peer entry that may be an island member: LIVE, STALE or PHANTOM (R41). -/
def EntryState.counted : EntryState → Bool
  | .live | .stale | .phantom => true
  | .empty | .qualifying => false

/-- A peer entry whose whole record is offered: LIVE or STALE (R25). -/
def EntryState.offered : EntryState → Bool
  | .live | .stale => true
  | .empty | .qualifying | .phantom => false

/-- The peer entry's record lies in one of the sections (R41). -/
def PeerEntry.lies (e : PeerEntry) (sections : List Nat) : Bool :=
  e.state.counted && e.record.any (fun r => sections.contains r.islandSection)

/-- The island members, ascending: the own station, and every counted entry of the island (R41). -/
def State.membersIn (s : State) (sections : List Nat) : List Station :=
  stations.filter fun i => i == s.own || (s.entry i).lies sections

/-- TIE_DISAGREE: some LIVE or STALE entry reports another tie view than the own (R43). -/
def State.disagrees (s : State) : Bool :=
  stations.any fun i => (s.entry i).state.offered && (s.entry i).record.any (fun r => r.tieView != s.island.tieView)

/-- What one member contributes to the island quantities (R44). -/
structure Contribution where
  station : Station
  inLoad : Bool
  inCapacity : Bool
  inPool : Bool
  p : Int
  q : Int
  rating : Nat
  reactiveRating : Nat
  deriving DecidableEq, Repr

/-- The row of the table of R44 for a set state; `flagged` is the DROOP flag or the stale flag. -/
def contributionOf (i : Station) (st : SetState) (flagged : Bool) (p q : Int) (rating reactive : Nat) : Contribution :=
  let (load, capacity, pool) := match st with
    | .loading => (true, true, false)
    | .sharing => (true, true, !flagged)
    | .unloading | .opening => (true, false, false)
    | .off | .standby | .starting | .tripped | .startFailed => (false, false, false)
  { station := i, inLoad := load, inCapacity := capacity, inPool := pool, p, q, rating, reactiveRating := reactive }

/-- The own station's contribution, with the sharing mode given (R44, R45). -/
def State.ownContribution (s : State) (mode : SharingMode) : Contribution :=
  contributionOf s.own s.seq.state (mode == .droop || s.composer.meterFail) s.island.ownP s.island.ownQ
    s.conf.rating s.conf.reactiveRating

/-- A peer member's contribution (R44, R46). -/
def peerContribution (i : Station) (e : PeerEntry) : Option Contribution :=
  match e.record with
  | none => none
  | some r =>
    match e.state with
    | .live | .stale =>
      some (contributionOf i r.setState (r.flags.droop || r.flags.stale) r.p r.q r.rating r.reactiveRating)
    | .phantom =>
      some { station := i, inLoad := true, inCapacity := true, inPool := false, p := r.p, q := r.q
             rating := r.rating, reactiveRating := r.reactiveRating }
    | .empty | .qualifying => none

/-- What the members contribute, with the sharing mode given. -/
def State.contributions (s : State) (members : List Station) (mode : SharingMode) : List Contribution :=
  members.filterMap fun i => if i = s.own then some (s.ownContribution mode) else peerContribution i (s.entry i)

/-- P_load of a list of contributions (R47). -/
def loadOf (cs : List Contribution) : Int := ((cs.filter (·.inLoad)).map (·.p)).sum

/-- R_cap of a list of contributions (R47). -/
def capacityOf (cs : List Contribution) : Nat := ((cs.filter (·.inCapacity)).map (·.rating)).sum

/-- A cause that holds the sharing mode at DROOP (R49). -/
def State.droopCause (s : State) (members : List Station) (disagree : Bool) : Bool :=
  disagree || members.any (fun i => i != s.own && (s.entry i).state == .phantom) || s.composer.meterFail
    || s.mode != .run

/-- The sharing mode and its return timer (R50): an active cause gives DROOP with the timer stopped; where the last
cause has ended, the mode stays DROOP and the timer starts. -/
def nextSharing (mode : SharingMode) (timer : Timer) (cause : Bool) (now : Nat) : SharingMode × Timer :=
  if cause then (.droop, none)
  else match mode, timer with
    | .droop, none => (.droop, some (now + returnTime))
    | m, t => (m, t)

/-- The island quantities of a list of contributions (R47). -/
def Island.withQuantities (isl : Island) (cs : List Contribution) (frequency : Nat) : Island :=
  let pool := cs.filter (·.inPool)
  { isl with
    pLoad := loadOf cs
    rCap := capacityOf cs
    qrCap := ((cs.filter (·.inCapacity)).map (·.reactiveRating)).sum
    online := (cs.filter (·.inCapacity)).length
    pPool := (pool.map (·.p)).sum
    rPool := (pool.map (·.rating)).sum
    qPool := (pool.map (·.q)).sum
    qrPool := (pool.map (·.reactiveRating)).sum
    frequency }

/-- Island frequency: the bus frequency of the latest own record, 0 while there is none (R47, R56). -/
def State.busFrequency (s : State) : Nat :=
  match s.metering.latest with
  | none => 0
  | some r => r.frequency

/-- The resolver's view of the ties, before the island quantities (R40, R41, R43, R50, R51). -/
def State.resolveView (s : State) : Island :=
  let sections := islandSections s.conf.ownSection s.island.tieView
  let members := s.membersIn sections
  let next := nextSharing s.island.mode s.island.returnTimer (s.droopCause members s.disagrees) s.now
  { s.island with
    sections, members, tieDisagree := s.disagrees, mode := next.1, returnTimer := next.2
    droopOut := decide (next.1 = SharingMode.droop) }

/-- The resolver's recomputation (R48): sections, members, TIE_DISAGREE, the sharing mode with its output and the
island quantities, each from the state as it stands. -/
def State.resolve (s : State) : State :=
  let v := s.resolveView
  { s with island := v.withQuantities (s.contributions v.members v.mode) s.busFrequency }

/-- The set state of a member as the duty logic and the shed ladder read it: the own set state, or that of a LIVE or
STALE peer's record; a PHANTOM member has none (R97). -/
def State.memberState (s : State) (i : Station) : Option SetState :=
  if i = s.own then some s.seq.state
  else if (s.entry i).state.offered then (s.entry i).record.map (·.setState) else none

/-- The start rank of a member, from the same sources (R97). -/
def State.memberRank (s : State) (i : Station) : Nat :=
  if i = s.own then s.conf.startRank else ((s.entry i).record.map (·.startRank)).getD 0

/-- Some island member stands in one of the given set states (R104, R106, R141). -/
def State.memberIn (s : State) (states : List SetState) : Bool :=
  s.island.members.any fun i => (s.memberState i).any states.contains

end Sys2Proof.Machine
end

