-- ==== Sys2Proof/Machine/Sending.lean ====
section
/-! DEFINITION. The transmitter's operations (R3 to R7) and the frame composer (R15 to R18). -/

namespace Sys2Proof.Machine

/-! ### Transmitter -/

/-- The lane is idle at an instant, as far as the lane interface has seen (R1). -/
def LaneIf.isIdle (l : LaneIf) (now : Nat) : Bool :=
  match l.quietFrom with
  | .notIdle | .unseen _ => false
  | .since t => t ≤ now

/-- The first instant at which a command that shows the lane to have been idle can come (R1, R4); none while the lane is
not idle. -/
def Quiet.earliest : Quiet → Option Nat
  | .notIdle => none
  | .unseen t | .since t => some t

/-- Entering SEND (R4): the byte counter is 0 and the first start bit makes the lane active, at which the own
receiver begins its reception too. -/
def LaneIf.enterSend (l : LaneIf) (now : Nat) : LaneIf :=
  { l with tx := .send, byteCounter := 0, sendStart := some now, quietFrom := .notIdle, receiving := true }

/-- Entering DEFER (R4): where the lane is idle and not STUCK, SEND is entered at once. -/
def LaneIf.enterDefer (l : LaneIf) (now : Nat) : LaneIf :=
  if l.isIdle now && !l.stuck then { l with tx := .defer }.enterSend now else { l with tx := .defer }

/-- What a handed-over frame does (R3). -/
def LaneIf.handOver (l : LaneIf) (now : Nat) (f : Frame) : LaneIf :=
  match l.tx with
  | .idle => { l with pendingFrame := some f, attempts := 0 }.enterDefer now
  | .defer | .backoff | .isolated =>
    { l with pendingFrame := some f, attempts := 0, replaced := bump l.replaced }
  | .send =>
    match l.nextFrame with
    | none => { l with nextFrame := some f }
    | some _ => { l with nextFrame := some f, replaced := bump l.replaced }
  | .disabled => l

/-- Completion of the frame in SEND (R4). -/
def LaneIf.complete (l : LaneIf) (now : Nat) : LaneIf :=
  let done := { l with pendingFrame := none, attempts := 0, sendStart := none, quietFrom := .since now
                       ownEnd := l.receiving }
  match l.nextFrame with
  | none => { done with tx := .idle }
  | some f => { done with pendingFrame := some f, nextFrame := none }.enterDefer now

/-- A collision (R5): the frame stops, the byte counter is 0, the collision is counted and the jam begins. -/
def LaneIf.collide (l : LaneIf) (now : Nat) : LaneIf :=
  { l with byteCounter := 0, sendStart := none, collisions := bump l.collisions, jam := some (now + jamTime) }

/-- The end of the jam (R5, R6): at the 8th collision the frame is dropped, and otherwise the transmitter backs off
for a time set from the attempt count. -/
def LaneIf.endJam (l : LaneIf) (own : Station) (now : Nat) : LaneIf :=
  let n := l.attempts + 1
  let l := { l with jam := none }
  if 8 ≤ n then
    let dropped := { l with collisionDrops := bump l.collisionDrops, pendingFrame := none, attempts := 0 }
    match l.nextFrame with
    | none => { dropped with tx := .idle }
    | some f => { dropped with pendingFrame := some f, nextFrame := none }.enterDefer now
  else
    let waits := { l with tx := .backoff, backoff := some (now + backoffTime own n) }
    match l.nextFrame with
    | none => { waits with attempts := n }
    | some f => { waits with pendingFrame := some f, nextFrame := none, replaced := bump l.replaced, attempts := 0 }

/-- The start of a driver test (R7). -/
def LaneIf.startTest (l : LaneIf) (now : Nat) : LaneIf :=
  let l := { l with tx := .isolated, byteCounter := 0, sendStart := none, jam := none, backoff := none
                    test := some (now + driverTestTime) }
  match l.nextFrame with
  | none => l
  | some f => { l with pendingFrame := some f, nextFrame := none, replaced := bump l.replaced, attempts := 0 }

/-! ### Frame composer -/

/-- Merges a request into the waiting one, which is marked urgent if any request in it is (R16). -/
def mergeRequest (waiting : Option FrameKind) (k : FrameKind) : Option FrameKind :=
  match waiting with
  | some .urgent => some .urgent
  | _ => some k

/-- A request to the composer. It is kept in RUN alone (R15), and dealt with by `flush` at the end of the event. -/
def State.request (s : State) (k : FrameKind) : State :=
  if s.mode = .run then { s with composer := { s.composer with waiting := mergeRequest s.composer.waiting k } } else s

/-- The group entries of a frame: one for each configured group, in ascending index (R121). -/
def State.frameGroups (s : State) : List GroupItem :=
  (List.finRange 6).filterMap fun i =>
    match s.groupRecord i, (s.channel i).state with
    | some g, some st => some { index := i, rank := g.rank, nominal := g.nominal, state := st.frameCode }
    | _, _ => none

/-- The claim entries of a frame: one for each listed own claim, in ascending index (R17, R161). -/
def State.frameClaims (s : State) : List ClaimItem :=
  (List.finRange 2).filterMap fun n =>
    match s.demand n, (s.claim n).state.listed with
    | some d, some c => some { index := n, demand := d, state := c, age := (s.claim n).age }
    | _, _ => none

/-- The content of a composition with the metering values it carries (R17). -/
def State.frameContent (s : State) (stale : Bool) (p q : Int) (frequency : Nat) : PeerRecord :=
  { islandSection := s.conf.ownSection, startRank := s.conf.startRank, tieView := s.island.tieView
    setState := s.seq.state
    flags := { breakerClosed := s.pins.breaker, stale, droop := s.island.mode == .droop
               configFault := s.configFault, unloadPending := s.seq.pendingUnload }
    rating := s.conf.rating, reactiveRating := s.conf.reactiveRating, p, q, frequency
    actionAge := s.ladder.actionAge, groups := s.frameGroups, claims := s.frameClaims }

/-- METER_FAIL and the counts after a composition, fresh or stale (R18). -/
def Composer.judge (c : Composer) : Composer :=
  if c.arrival then
    { c with staleCount := 0, meterFail := c.meterFail && c.freshCount != 2 }
  else
    let n := bump8 c.staleCount
    { c with staleCount := n, freshCount := 0, meterFail := c.meterFail || decide (3 ≤ n) }

/-- The frame number after `n`: 1 to 255, and then 1 again (R17). -/
def nextFrameNumber (n : Nat) : Nat := if n = 255 then 1 else n + 1

/-- The P, Q and bus frequency that a composition carries: those of the latest record while the arrival mark is
set, and the values last sent otherwise (R18). -/
def State.sentValues (s : State) : Int × Int × Nat :=
  match s.composer.arrival, s.metering.latest with
  | true, some r => (r.p, r.q, r.frequency)
  | _, _ => (s.composer.lastP, s.composer.lastQ, s.composer.lastFrequency)

/-- The own P and Q that the resolver holds once METER_FAIL has cleared: those of the latest record (R45). -/
def Island.refreshOwn (isl : Island) (cleared : Bool) (latest : Option MeterRecord) : Island :=
  match cleared, latest with
  | true, some r => { isl with ownP := r.p, ownQ := r.q }
  | _, _ => isl

/-- The frame a composition of a kind builds (R17, R18). DESIGN CHOICE (log entry 33; unsafe): its DROOP flag is the
sharing mode before this same composition judges METER_FAIL, so that the frame of the stale composition that makes
METER_FAIL active does not show it yet. -/
def State.composedFrame (s : State) (k : FrameKind) : Frame :=
  let v := s.sentValues
  { kind := k, station := s.own, number := s.composer.nextNumber
    content := s.frameContent (!s.composer.arrival) v.1 v.2.1 v.2.2 }

/-- A composition (R16 to R18): the frame is built from the state as it stands and handed to both lanes; the number
advances, the spacing timer starts and the arrival mark clears. METER_FAIL, and DROOP with it, follow after the frame
has been built: the order is the model's choice (log entry 33). -/
def State.compose (s : State) (k : FrameKind) : State :=
  let v := s.sentValues
  let c := s.composer.judge
  let c := { c with lastP := v.1, lastQ := v.2.1, lastFrequency := v.2.2, arrival := false, waiting := none
                    nextNumber := nextFrameNumber c.nextNumber, spacing := s.after spacingTime }
  let f := s.composedFrame k
  { s with
    composer := c
    island := s.island.refreshOwn (s.composer.meterFail && !c.meterFail) s.metering.latest
    laneA := s.laneA.handOver s.now f
    laneB := s.laneB.handOver s.now f }

/-- Deals with the requests of an event: with the spacing timer stopped they are composed at once, as one frame
(R16, log entry 7). -/
def State.flush (s : State) : State :=
  match s.composer.waiting, s.composer.spacing with
  | some k, none => s.compose k
  | _, _ => s

end Sys2Proof.Machine
end

