-- ==== Sys2Proof/Machine/GroupOps.lean ====
section
/-! DEFINITION. The group channels' operations (R111 to R120) and the ladder they stand on (R126 to R128): building
the ladder, eligibility, relief, and the commands the ladder issues to a channel (R143). -/

namespace Sys2Proof.Machine

/-! ### The ladder -/

/-- The own entries: every configured own group, whatever its state (R126). -/
def State.ownEntries (s : State) : List LadderEntry :=
  s.conf.groups.filterMap fun g =>
    (s.channel g.index).state.map fun st =>
      { station := s.own, index := g.index, rank := g.rank, nominal := g.nominal, state := st.frameCode, owner := .own }

/-- The entries of a peer: the groups its record lists while the entry is LIVE or STALE (R126). -/
def peerEntries (i : Station) (e : PeerEntry) : List LadderEntry :=
  match e.state, e.record with
  | .live, some r => r.groups.map fun g =>
      { station := i, index := g.index, rank := g.rank, nominal := g.nominal, state := g.state, owner := .live }
  | .stale, some r => r.groups.map fun g =>
      { station := i, index := g.index, rank := g.rank, nominal := g.nominal, state := g.state, owner := .stale }
  | _, _ => []

/-- The ladder's order as one number: rank, then station identity, then group index (R126). -/
def LadderEntry.order (e : LadderEntry) : Nat := (e.rank * 8 + e.station.val) * 6 + e.index.val

/-- The key of an entry (R126). -/
def LadderEntry.key (e : LadderEntry) : Key := { station := e.station, index := e.index }

/-- The ladder as it follows from the own groups, the peer table and the members (R126). -/
def State.ladderOf (s : State) : List LadderEntry :=
  (s.ownEntries ++ s.island.members.flatMap (fun i => if i = s.own then [] else peerEntries i (s.entry i))).insertionSort
    (fun a b => a.order ≤ b.order)

/-- Brings the ladder up to date (R127). -/
def State.relist (s : State) : State := { s with ladder := { s.ladder with entries := s.ladderOf } }

/-- The state of the ladder entry with a key, none when there is no such entry. -/
def stateAt (entries : List LadderEntry) (k : Key) : Option GroupCode :=
  (entries.find? (fun e => e.key = k)).map (·.state)

/-- Eligible: CONNECTED and not in the skip set (R128). -/
def Ladder.eligible (l : Ladder) (e : LadderEntry) : Bool := e.state == .connected && !l.skip.contains e.key

/-- Relief: the nominal loads of all entries in SHED_PENDING (R129). -/
def Ladder.relief (l : Ladder) : Nat := ((l.entries.filter (fun e => e.state == .shedPending)).map (·.nominal)).sum

/-! ### Group channels -/

/-- A change of an own group's state, made known to the composer and to the ladder (R121). -/
def State.setGroupState (s : State) (i : Fin 6) (st : GroupState) : State :=
  ((s.setChannel i { s.channel i with state := some st }).request .urgent).relist

/-- The start of a group's TRIP pulse, with the close spacing timer (R114, R116). -/
def State.startTrip (s : State) (i : Fin 6) : State :=
  let s := s.setChannel i { s.channel i with trip := s.after breakerPulse, tripHeld := false }
  { s with groups := { s.groups with closeSpacing := s.after closeSpacingTime } }

/-- The start of a group's CLOSE pulse, with the close spacing timer (R114, R116). -/
def State.startClose (s : State) (i : Fin 6) : State :=
  let s := s.setChannel i { s.channel i with close := s.after breakerPulse }
  { s with groups := { s.groups with closeSpacing := s.after closeSpacingTime } }

/-- Issues a TRIP pulse: it is held back while the group's CLOSE pulse runs (R116). -/
def State.issueTrip (s : State) (i : Fin 6) : State :=
  if (s.channel i).close.isSome then s.setChannel i { s.channel i with tripHeld := true } else s.startTrip i

/-- The start of a group's confirmation window (R112, R114). -/
def State.startWindow (s : State) (i : Fin 6) : State :=
  s.setChannel i { s.channel i with window := s.after confirmationTime }

/-- A shed command at a channel (R112). -/
def State.takeShed (s : State) (i : Fin 6) : State :=
  if (s.channel i).state = some .connected then ((s.setGroupState i .shedPending).startWindow i).issueTrip i else s

/-- A restore command at a channel (R114). -/
def State.takeRestore (s : State) (i : Fin 6) : State :=
  if (s.channel i).state = some .shed ∧ s.groups.closeSpacing = none then
    ((s.setGroupState i .restorePending).startWindow i).startClose i
  else s

/-! ### Commands of the ladder -/

/-- The own action age at a command the ladder issues (R130). -/
def State.resetAge (s : State) : State :=
  { s with ladder := { s.ladder with actionAge := 0, ageTimer := s.after agePeriod } }

/-- The ladder issues a shed command to an own group (R143). -/
def State.commandShed (s : State) (i : Fin 6) : State := s.resetAge.takeShed i

/-- The ladder issues a restore command to an own group (R143). -/
def State.commandRestore (s : State) (i : Fin 6) : State := s.resetAge.takeRestore i

/-! ### The slow step (R133 to R136) -/

/-- The step takes the first eligible entry of the ladder (R134). -/
def State.takeStep (s : State) : State :=
  match s.ladder.entries.find? s.ladder.eligible with
  | none => s.raise .shedExhausted
  | some e =>
    if e.owner = .own then s.commandShed e.index
    else { s with ladder := { s.ladder with inFlight := some e.key, handOff := s.after handOffTime } }

/-- Once no step is in flight, a held request begins a new one (R133, R135). -/
def State.nextStep (s : State) : State :=
  if s.ladder.inFlight = none ∧ s.ladder.held then { s with ladder := { s.ladder with held := false } }.takeStep else s

/-- A request for a slow step: it begins at once, or is held behind the step in flight (R133). -/
def State.requestStep (s : State) : State :=
  if s.ladder.inFlight = none then s.takeStep else { s with ladder := { s.ladder with held := true } }

/-- The ladder after a change among the peers or the ties (R127): a key leaves the skip set when its entry's state
changed or the entry left (R128), and the step in flight ends when its entry is no longer CONNECTED or left
(R135). -/
def State.syncLadder (s : State) : State :=
  let before := s.ladder.entries
  let after := s.ladderOf
  let skip := s.ladder.skip.filter fun k => (stateAt after k).isSome && stateAt after k == stateAt before k
  let s := { s with ladder := { s.ladder with entries := after, skip } }
  match s.ladder.inFlight with
  | none => s
  | some k =>
    if stateAt after k = some .connected then s
    else { s with ladder := { s.ladder with inFlight := none, handOff := none } }.nextStep

/-! ### The end of an event -/

/-- Brings what follows from the rest up to date: the island (R48), the ladder (R127), and the alarm latches with
the relay (R177, R178). -/
def State.settle (s : State) : State := s.resolve.relist.syncAlarms

/-- The end of an event: the requests it has made to the composer are dealt with against the island as the event leaves
it (R16, R17, R48), and what follows from the rest is brought up to date. -/
def State.finish (s : State) : State := s.resolve.flush.settle

/-- A change in the peer table or in the ties, made known to the resolver and then to the ladder (R25, R41, R127). -/
def State.spread (s : State) : State := s.resolve.syncLadder

end Sys2Proof.Machine
end

