-- ==== Sys2Proof/Machine/SetOps.lean ====
section
/-! DEFINITION. The set sequencer's changes of state and what its neighbours do with them (R76), the pulses (R77),
the unload requests (R88 to R94), and the taking of trip notices at the ladder, the duty logic and the sequencer
(R91, R98, R137 to R140). -/

namespace Sys2Proof.Machine

/-! ### Changes of the own set state -/

/-- The states into which a change sets both biases to 0 (R73). -/
def SetState.offBus : SetState → Bool
  | .off | .standby | .tripped | .startFailed => true
  | .starting | .loading | .sharing | .unloading | .opening => false

/-- The regulator's part in a change of the own set state (R64, R73): the ramp target is set from the own P in RUN,
and is unset in every other case. -/
def Regulator.onState (r : Regulator) (st : SetState) (run : Bool) (s : Int) : Regulator :=
  let r := { r with rampTarget := if (st = .loading ∨ st = .unloading) ∧ run then some s else none }
  if st.offBus then { r with speedBias := 0, voltBias := 0 } else r

/-- A change of the own set state, made known to the other blocks (R76). -/
def State.setSetState (s : State) (st : SetState) : State :=
  ({ s with
      seq := { s.seq with state := st }
      regulator := s.regulator.onState st s.inRun (perUnit s.island.ownP s.conf.rating) }.request .urgent).resolve

/-- Issues the START pulse (R77, R81). -/
def State.issueStart (s : State) : State := { s with seq := { s.seq with startPulse := s.after enginePulse } }

/-- Issues the STOP pulse, which is held back while the START pulse runs (R77). -/
def State.issueStop (s : State) : State :=
  if s.seq.startPulse.isSome then { s with seq := { s.seq with stopHeld := true } }
  else { s with seq := { s.seq with stopPulse := s.after enginePulse } }

/-- Issues the OPEN pulse (R77, R93). -/
def State.issueOpen (s : State) : State := { s with seq := { s.seq with openPulse := s.after breakerPulse } }

/-! ### Starting, unloading and opening -/

/-- The start decision at the set sequencer (R81, R82). -/
def State.takeStart (s : State) : State :=
  if s.seq.state = .standby ∧ s.seq.stopPulse = none ∧ ¬ s.seq.stopHeld then
    let s := s.issueStart.setSetState .starting
    { s with seq := { s.seq with startTimer := s.after startTime, closePermit := s.pins.running } }
  else s

/-- The breaker closes: the set enters LOADING, and a start in progress is over (R83, R85). -/
def State.closeOnBus (s : State) : State :=
  { s with seq := { s.seq with startTimer := none, closePermit := false } }.setSetState .loading

/-- Leaving STARTING without the breaker: the start timer stops and CLOSE PERMIT is released (R80, R84). -/
def State.leaveStarting (s : State) (st : SetState) : State :=
  { s with seq := { s.seq with startTimer := none, closePermit := false } }.setSetState st

/-- The unload check (R88). -/
def State.unloadCheck (s : State) : Bool :=
  2 ≤ s.island.online && decide (100 * s.island.pLoad ≤ 95 * ((s.island.rCap : Int) - s.conf.rating))

/-- Entering UNLOADING, by either way (R90). -/
def State.enterUnloading (s : State) (k : UnloadKind) : State :=
  { s with seq := { s.seq with unloadKind := k, unloadTimer := s.after unloadTime } }.setSetState .unloading

/-- An unload request judged in SHARING (R88, R89). -/
def State.judgeUnload (s : State) : State :=
  if s.unloadCheck then s.enterUnloading .manual else s.raise .unloadRefused

/-- The loading-complete notice (R86), with the pending unload judged at the entry to SHARING (R89). -/
def State.takeLoadingComplete (s : State) : State :=
  if s.seq.state = .loading then
    let s' := s.setSetState .sharing
    if s'.seq.pendingUnload then { s' with seq := { s'.seq with pendingUnload := false } }.judgeUnload else s'
  else s

/-- The unloaded notice (R93). -/
def State.takeUnloaded (s : State) : State :=
  if s.seq.state = .unloading then
    let s := s.issueOpen
    { s with seq := { s.seq with unloadTimer := none, openingTimer := s.after openingTime } }.setSetState .opening
  else s

/-- A return to SHARING from UNLOADING or OPENING (R91, R92, R94). -/
def State.returnToSharing (s : State) : State :=
  { s with seq := { s.seq with unloadTimer := none, openingTimer := none, unloadKind := .none } }.setSetState .sharing

/-- An event that aborts an unload in progress (R91). -/
def State.abortUnload (s : State) : State := if s.seq.state = .unloading then s.returnToSharing else s

/-- The stop decision at the set sequencer (R90). -/
def State.takeStop (s : State) : State := if s.seq.state = .sharing then s.enterUnloading .automatic else s

/-! ### Trip notices -/

/-- A trip notice (R30, R87): the tripped station, its last online P, its rating and its section. -/
structure TripNotice where
  station : Station
  p : Int
  rating : Nat
  tripSection : Nat
  deriving DecidableEq, Repr

/-- A trip notice is for the island (R42). -/
def State.noticeForIsland (s : State) (n : TripNotice) : Bool :=
  n.station == s.own || s.island.sections.contains n.tripSection

/-- The deficit of a trip notice (R138): the tripped station's present contribution is left out of both sums. -/
def State.deficit (s : State) (n : TripNotice) : Int :=
  let others := (s.contributions s.island.members s.island.mode).filter (fun c => c.station ≠ n.station)
  loadOf others + n.p - s.ladder.relief - capacityOf others

/-- The walk of a block shed (R139): the eligible entries from the front, up to and including the first that brings
the running sum to `d` or more. -/
def walk (l : Ladder) (d : Int) : List LadderEntry → List LadderEntry
  | [] => []
  | e :: es =>
    if d ≤ 0 then []
    else if l.eligible e then e :: walk l (d - e.nominal) es
    else walk l d es

/-- The nominal loads of the chosen entries. -/
def chosenSum (es : List LadderEntry) : Int := ((es.map (·.nominal)).sum : Nat)

/-- The block shed of a trip notice that the ladder acts on (R138 to R140). -/
def State.blockShed (s : State) (n : TripNotice) : State :=
  let d := s.deficit n
  if d ≤ 0 then s
  else
    let chosen := walk s.ladder d s.ladder.entries
    let own := chosen.filter (fun e => e.owner == .own)
    let s := if chosenSum chosen < d then s.raise .shedExhausted else s
    own.foldl (fun s e => s.commandShed e.index) s

/-- A trip notice at the duty logic (R98). -/
def State.startTripRecent (s : State) : State :=
  { s with duty := { s.duty with tripRecent := s.after tripRecentTime } }

/-- A trip notice at its readers: the shed ladder and the duty logic act on it in RUN alone (R98, R137), and the set
sequencer aborts an unload at a peer's notice (R91). The ladder takes it before the abort (R138). -/
def State.takeTripNotice (s : State) (n : TripNotice) : State :=
  if s.noticeForIsland n then
    let s := if s.mode = .run then (s.blockShed n).startTripRecent else s
    if n.station = s.own then s else s.abortUnload
  else s

end Sys2Proof.Machine
end

