-- ==== Sys2Proof/Machine/ClaimOps.lean ====
section
/-! DEFINITION. The admission logic's fit test (R148 to R151) and its changes of a claim's state (R15, R147, R152). -/

namespace Sys2Proof.Machine

/-- An own claim as an island claim, while it is listed (R148). -/
def State.ownIslandClaim (s : State) (n : Fin 2) : Option IslandClaim :=
  match s.demand n, (s.claim n).state.listed with
  | some d, some c => some { station := s.own, index := n, state := c, demand := d, age := (s.claim n).age }
  | _, _ => none

/-- A peer's claims as island claims: those its record lists while the entry is LIVE or STALE (R148). -/
def peerIslandClaims (i : Station) (e : PeerEntry) : List IslandClaim :=
  match e.state.offered, e.record with
  | true, some r => r.claims.map fun c => { station := i, index := c.index, state := c.state, demand := c.demand, age := c.age }
  | _, _ => []

/-- The island claims (R148). -/
def State.islandClaims (s : State) : List IslandClaim :=
  (List.finRange 2).filterMap s.ownIslandClaim
  ++ s.island.members.flatMap (fun i => if i = s.own then [] else peerIslandClaims i (s.entry i))

/-- `c` stands ahead of `d` in precedence (R150). -/
def IslandClaim.ahead (c d : IslandClaim) : Bool :=
  if c.state = .granted ∧ d.state ≠ .granted then true
  else if c.state ≠ .granted ∧ d.state = .granted then false
  else if c.age ≠ d.age then d.age < c.age
  else if c.station ≠ d.station then decide (c.station.val < d.station.val)
  else decide (c.index.val < d.index.val)

/-- The headroom (R149). -/
def State.headroomNow (s : State) : Int := ((s.island.rCap * 9 / 10 : Nat) : Int) - s.island.pLoad

/-- The island claims other than the one tested. -/
def State.otherClaims (s : State) (c : IslandClaim) : List IslandClaim :=
  s.islandClaims.filter fun d => ¬ (d.station = c.station ∧ d.index = c.index)

/-- What the headroom must hold for a claim to fit: its demand and those of the claims in CLAIMING or GRANTED that
stand ahead of it (R151). -/
def State.needed (s : State) (c : IslandClaim) : Nat :=
  c.demand + (((s.otherClaims c).filter (fun d => d.state != .waiting && d.ahead c)).map (·.demand)).sum

/-- The claim fits (R151). -/
def State.fits (s : State) (c : IslandClaim) : Bool := decide ((s.needed c : Int) ≤ s.headroomNow)

/-- Keeps the headroom and the island claims in precedence order as the fit test found them (R161). -/
def State.noteFit (s : State) (c : IslandClaim) : State :=
  { s with admission := { s.admission with
      headroom := s.headroomNow
      found := (c :: s.otherClaims c).insertionSort (fun a b => ¬ b.ahead a) } }

/-- A change of a claim's state is an urgent request where the claim is listed before or after it (R15). -/
def State.setClaimState (s : State) (n : Fin 2) (c : Claim) : State :=
  let listed := (s.claim n).state.listed.isSome || c.state.listed.isSome
  let s := s.setClaim n c
  if listed then s.request .urgent else s

/-- An own claim entering CLAIMING with a new window (R152, R154). -/
def State.toClaiming (s : State) (n : Fin 2) : State :=
  s.setClaimState n { s.claim n with state := .claiming, window := s.after claimWindowTime }

/-- An own claim entering WAITING; its waiting timer starts where it is not already running (R152, R153). -/
def State.toWaiting (s : State) (n : Fin 2) : State :=
  let c := s.claim n
  s.setClaimState n { c with state := .waiting, window := none, waiting := c.waiting.or (s.after waitingTime) }

/-- An own claim entering REFUSED (R153, R155). The out-of-time mark is set only in the window (R153, log entry 24). -/
def State.toRefused (s : State) (n : Fin 2) : State :=
  (s.setClaimState n { s.claim n with
    state := .refused, window := none, waiting := none, outOfTime := false }).raise .claimRefused

/-- An own claim entering GRANTED (R153, R158). The out-of-time mark is set only in the window (R153, log entry 24). -/
def State.toGranted (s : State) (n : Fin 2) : State :=
  s.setClaimState n { s.claim n with state := .granted, window := none, waiting := none, outOfTime := false
                                     hold := s.after holdTime, grant := true }

/-- The taking of a request (R152): the claim opens at age 0, and enters CLAIMING where LINK_OK is true and it
fits, and WAITING otherwise. -/
def State.takeRequest (s : State) (n : Fin 2) : State :=
  match s.demand n, (s.claim n).state with
  | some d, .idle =>
    let tested : IslandClaim := { station := s.own, index := n, state := .claiming, demand := d, age := 0 }
    let ok := s.linkOk && s.fits tested
    let s := s.noteFit tested
    let s := s.setClaim n { s.claim n with age := 0, ageTimer := s.after agePeriod, outOfTime := false }
    if ok then s.toClaiming n else s.toWaiting n
  | _, _ => s

/-- The re-test of one own claim (R154). -/
def State.retestClaim (s : State) (n : Fin 2) : State :=
  match s.ownIslandClaim n with
  | some c =>
    if c.state = .waiting then
      let ok := s.linkOk && s.fits c
      let s := s.noteFit c
      if ok then s.toClaiming n else s
    else s
  | none => s

/-- The own channels in the order in which their claims are re-tested: precedence order (R154). -/
def State.retestOrder (s : State) : List (Fin 2) :=
  match s.ownIslandClaim 0, s.ownIslandClaim 1 with
  | some a, some b => if b.ahead a then [1, 0] else [0, 1]
  | _, _ => [0, 1]

end Sys2Proof.Machine
end

