-- ==== Sys2Proof/Machine/ModeOps.lean ====
section
/-! DEFINITION. The card modes: what every block does on entering LOAD (R165), LISTEN (R166), RUN (R168) and MUTE
(R169). -/

namespace Sys2Proof.Machine

/-- Entering LOAD, from power-on or from RESTART (R165): every block takes the values its own section gives. The
straps and the image as last read are kept until LOAD has read them again (R162), and the inputs, the clock and the
commands that wait are not the card's to change. -/
def State.enterLoad (s : State) : State :=
  { State.reset with
    now := s.now
    pins := s.pins
    pending := s.pending
    loader := { State.reset.loader with
      straps := s.loader.straps
      image := s.loader.image
      firstFault := s.loader.firstFault
      loadTimer := s.after loadTime } }

/-- A lane interface on entering LISTEN (R19): it begins to receive, and the lane is taken as not idle. Its idle and
active intervals are measured from the entry, so that it is idle no earlier than 80 µs from then; whether its level was
idle in them is not known to the model until a command shows it. -/
def LaneIf.enterListen (l : LaneIf) (now : Nat) : LaneIf :=
  { l with quietFrom := .unseen (now + idleTime), errorWindow := some (now + errorWindowTime)
           silence := some (now + silenceTime) }

/-- The group state of a configured channel on entering LISTEN (R124). -/
def startGroupState (g : GroupRecord) (closed : Bool) : GroupState :=
  if g.sheddable then (if closed then .connected else .openExternal) else .inhibited

/-- One channel on entering LISTEN (R124). -/
def State.startChannel (s : State) (i : Fin 6) : State :=
  match s.groupRecord i with
  | none => s
  | some g => s.setChannel i { s.channel i with state := some (startGroupState g s.pins.feedback[i]) }

/-- The set state taken from the levels on entering LISTEN (R79). -/
def Pins.startSetState (p : Pins) : SetState :=
  if p.breaker then .loading else if p.available then .standby else .off

/-- The own tie view as the levels of the inputs give it (R39). -/
def Pins.tieView (p : Pins) : TieView := { tie1 := p.ties[0], tie2 := p.ties[1], tie3 := p.ties[2] }

/-- The end of LOAD (R166): the image is judged, the configuration in use is formed, and the card enters LISTEN with
every block at its start there (R19, R39, R52, R53, R79, R124, R144, R175). -/
def State.enterListen (s : State) (straps : StrapPins) (image : List Word) : State :=
  let s := { s with
    loader := { s.loader with straps, image, firstFault := firstFaultOf image
                              config := some (formConfiguration straps image), mode := .listen, loadTimer := none
                              listenTimer := s.after listenTime }
    laneA := s.laneA.enterListen s.now
    laneB := s.laneB.enterListen s.now
    island := { s.island with tieView := s.pins.tieView }
    metering := { s.metering with interval := s.after meteringInterval }
    service := { s.service with gap := s.after gapTime }
    groups := { s.groups with closeSpacing := s.after closeSpacingTime }
    ladder := { s.ladder with actionAge := 0, ageTimer := s.after agePeriod } }
  let s := (List.finRange 6).foldl State.startChannel s
  (s.setSetState s.pins.startSetState).finish

/-- What the lane interface has seen of a lane since the entry to LISTEN, where no command has shown it: `idle` says that
the lane is idle, its level idle for 80 µs (R1, R19, log entry 36). -/
def LaneIf.seeIdle (l : LaneIf) (idle : Bool) : LaneIf :=
  match l.quietFrom, idle with
  | .unseen t, true => { l with quietFrom := .since t }
  | _, _ => l

/-- What both lane interfaces have seen of their lanes: a free value for each (log entry 36). -/
def State.seeLanes (s : State) : State :=
  { s with
    laneA := s.laneA.seeIdle (Config.laneSeenIdle .a s.now)
    laneB := s.laneB.seeIdle (Config.laneSeenIdle .b s.now) }

/-- Entering RUN (R168): the timers of RUN start, the first frame is composed, the card-mode cause of DROOP ends, and
a REQUEST level found high is taken as a rising edge. Where both levels are high, either may be taken first (R152), and
the second counts the first in its fit test: the model takes channel 0 first (DESIGN CHOICE, log entry 32; unsafe). -/
def State.enterRun (s : State) : State :=
  let s := { s with
    loader := { s.loader with mode := .run, listenTimer := none }
    composer := { s.composer with frameTimer := s.after framePeriod }
    duty := { s.duty with evaluation := s.after evaluationPeriod }
    ladder := { s.ladder with restoreTimer := s.after restorePeriod }
    admission := { s.admission with retest := s.after retestPeriod } }
  let s := (s.request .periodic).resolve.flush.resolve
  let s := if s.pins.request[0] then s.takeRequest 0 else s
  let s := if s.pins.request[1] then s.takeRequest 1 else s
  s.finish

/-- Entering MUTE (R169). -/
def State.enterMute (s : State) : State :=
  { s with loader := { s.loader with mode := .mute, listenTimer := none } }.finish

end Sys2Proof.Machine
end

