-- ==== Sys2Proof/Machine/Link.lean ====
section
/-! DEFINITION. The share link's commands (Section 1): receptions, the transmitter's progress, the lane conditions and
the frame composer's two timers. -/

namespace Sys2Proof.Machine

/-! ### Receiving -/

/-- RECEPTION_BEGINS (R1, R10): at the first active level after the lane has been idle, a reception begins, unless
the lane is STUCK. -/
def execReceptionBegins (l : LaneId) (s : State) : Result :=
  whileAwake s fun s =>
    match (s.lane l).quietFrom.earliest with
    | none => s
    | some t =>
      if (s.lane l).stuck then s
      else
        let s := s.advanceTo t
        s.setLane l { s.lane l with quietFrom := .notIdle, receiving := true, ownEnd := false }

/-- A bad frame (R8, R12): it counts once in the check errors and once in the error window. -/
def LaneIf.countBad (l : LaneIf) : LaneIf :=
  { l with checkErrors := bump l.checkErrors, errorCount := bump8 l.errorCount }

/-- A peer frame restarts its lane's silence timer and ends that lane's silent condition; the other lane becomes
silent where its own timer is stopped (R13). Both healths may change so in one event, this lane's to OK and the other's
from OK: DESIGN CHOICE (log entry 37; unsafe), LINK_OK is recomputed once, from both as they then stand. -/
def State.hearPeer (s : State) (l : LaneId) : State :=
  let s := s.setLane l { s.lane l with silence := s.after silenceTime, silent := false }
  if (s.lane (otherLane l)).silence = none then s.setLane (otherLane l) { s.lane (otherLane l) with silent := true } else s

/-- A peer frame joins the receive queue, which holds 8 frames (R21). -/
def State.queueFrame (s : State) (l : LaneId) (f : Frame) : State :=
  if s.rx.frames.length < 8 then { s with rx := { s.rx with frames := s.rx.frames ++ [(l, f)] } }
  else { s with rx := { s.rx with overruns := bump s.rx.overruns } }.raise .rxOverrun

/-- A duplicate-identity event (R9, R167): it sends a card in LISTEN to MUTE and is reported in RUN. -/
def State.takeDuplicate (s : State) : State :=
  match s.mode with
  | .listen => s.enterMute
  | .run => s.raise .dupId
  | .load | .mute => s

/-- A good frame (R9). `inSend` is the transmitter's state as it stood before the completion at that end of frame. -/
def State.takeGoodFrame (s : State) (l : LaneId) (f : Frame) (inSend : Bool) : State :=
  let s := s.setLane l { s.lane l with goodFrames := bump (s.lane l).goodFrames }
  if f.station = s.own then (if inSend then s else s.takeDuplicate)
  else (s.hearPeer l).queueFrame l f

/-- The end of a reception at the lane interface: the lane is idle, unless its transmitter has entered SEND again
at that same instant (R1, R4). -/
def LaneIf.endReception (l : LaneIf) (now : Nat) : LaneIf :=
  if l.ownEnd && l.tx == .send then { l with ownEnd := false }
  else { l with receiving := false, ownEnd := false, quietFrom := .since now }

/-- RECEPTION_END (R1, R8, R9): a broken reception is discarded, and any other is checked and dealt with. LINK_OK and the
latches take up the healths of both lanes together, at its end: the model's choice (log entry 37). -/
def execReceptionEnd (l : LaneId) (rx : Reception) (s : State) : Result :=
  whileAwake s fun s =>
    let x := s.lane l
    if x.stuck || !x.receiving then s
    else
      let inSend := x.tx == .send || x.ownEnd
      let s := s.setLane l (x.endReception s.now)
      if receptionBroken rx then s
      else
        match parseFrame (rx.bytes.map (·.value)) with
        | none => s.setLane l (s.lane l).countBad
        | some f => (s.takeGoodFrame l f inSend).syncAlarms

/-! ### Sending -/

/-- SEND_START (R4): a transmitter in DEFER enters SEND once the lane is idle and not STUCK. -/
def execSendStart (l : LaneId) (s : State) : Result :=
  whileAwake s fun s =>
    match (s.lane l).tx, (s.lane l).quietFrom.earliest with
    | .defer, some t =>
      if (s.lane l).stuck then s
      else
        let s := s.advanceTo t
        s.setLane l ((s.lane l).enterSend s.now)
    | _, _ => s

/-- The instant at which the lane is idle after the last byte of the frame in SEND (R1, R4). DESIGN CHOICE (log entry
34; unsafe): the 80 µs run from the end of the whole last byte, its stop bit included, as the example of 1.3 counts them;
by R1's words they could run from the last active bit of that byte. -/
def LaneIf.completionTime (l : LaneIf) : Option Nat :=
  match l.tx, l.sendStart, l.pendingFrame with
  | .send, some t, some f => some (t + f.length * byteTime + idleTime)
  | _, _, _ => none

/-- FRAME_COMPLETE (R4): the frame in SEND is complete, and the transmitter takes its next frame or goes to IDLE. -/
def execFrameComplete (l : LaneId) (s : State) : Result :=
  whileAwake s fun s =>
    match (s.lane l).completionTime with
    | none => s
    | some t =>
      let s := s.advanceTo t
      s.setLane l ((s.lane l).complete s.now)

/-- COLLISION (R5): while in SEND, the lane read active while the transmitter drives it idle; the lane is not read
back during the jam. -/
def execCollision (l : LaneId) (s : State) : Result :=
  whileAwake s fun s =>
    if (s.lane l).tx = .send ∧ (s.lane l).jam = none then s.setLane l ((s.lane l).collide s.now) else s

/-- JAM_END (R5, R6). -/
def execJamEnd (l : LaneId) (s : State) : Result :=
  onExpiry s (s.lane l).jam fun s => s.setLane l ((s.lane l).endJam s.own s.now)

/-- BACKOFF_EXPIRY (R6): the transmitter goes to DEFER. -/
def execBackoffExpiry (l : LaneId) (s : State) : Result :=
  onExpiry s (s.lane l).backoff fun s => s.setLane l ({ s.lane l with backoff := none }.enterDefer s.now)

/-! ### Stuck lanes and the driver test -/

/-- STUCK_ENTRY (R7, R10): the lane becomes STUCK and a reception in progress is abandoned; where the active interval
began in SEND, the driver test begins. `beganInSend` is what the lane interface saw (log entry 8). -/
def execStuckEntry (l : LaneId) (beganInSend : Bool) (s : State) : Result :=
  whileAwake s fun s =>
    let x := s.lane l
    if x.stuck then s
    else
      let x := { x with stuck := true, receiving := false, ownEnd := false, quietFrom := .notIdle }
      let x := if beganInSend && x.tx != .disabled && x.tx != .isolated then x.startTest s.now else x
      (s.setLane l x).syncAlarms

/-- DRIVER_TEST_LANE_IDLE (R7): the level returned to idle before the test timer expired, so the own driver was
holding the lane: the transmitter goes to DISABLED. -/
def execDriverTestLaneIdle (l : LaneId) (s : State) : Result :=
  whileAwake s fun s =>
    let x := s.lane l
    if x.tx = .isolated ∧ x.test.isSome then
      (s.setLane l { x with tx := .disabled, pendingFrame := none, test := none
                            quietFrom := .since (s.now + idleTime) }).syncAlarms
    else s

/-- DRIVER_TEST_EXPIRY (R7): the transmitter stays ISOLATED and waits for the lane to be idle. -/
def execDriverTestExpiry (l : LaneId) (s : State) : Result :=
  onExpiry s (s.lane l).test fun s => s.setLane l { s.lane l with test := none }

/-- ISOLATED_LANE_IDLE (R7): the lane is idle after an expired test; the transmitter goes to DEFER or IDLE. -/
def execIsolatedLaneIdle (l : LaneId) (s : State) : Result :=
  whileAwake s fun s =>
    let x := s.lane l
    if x.tx = .isolated ∧ x.test = none then
      let x := { x with quietFrom := .since s.now }
      s.setLane l (if x.pendingFrame.isSome then x.enterDefer s.now else { x with tx := .idle })
    else s

/-- STUCK_END (R4, R10): the level has been idle for 10 ms; a transmitter in DEFER enters SEND at once. -/
def execStuckEnd (l : LaneId) (s : State) : Result :=
  whileAwake s fun s =>
    let x := s.lane l
    if x.stuck then
      let x := { x with stuck := false, quietFrom := .since s.now }
      (s.setLane l (if x.tx = .defer then x.enterDefer s.now else x)).syncAlarms
    else s

/-! ### Lane conditions -/

/-- ERROR_WINDOW_EXPIRY (R12): the degraded condition is judged against T, and the count becomes 0. -/
def execErrorWindowExpiry (l : LaneId) (s : State) : Result :=
  onExpiry s (s.lane l).errorWindow fun s =>
    (s.setLane l { s.lane l with degraded := decide (s.conf.threshold ≤ (s.lane l).errorCount), errorCount := 0
                                 errorWindow := s.after errorWindowTime }).syncAlarms

/-- SILENCE_TIMER_EXPIRY (R13): the timer stops, and the lane becomes silent where the other lane's timer runs. -/
def execSilenceTimerExpiry (l : LaneId) (s : State) : Result :=
  onExpiry s (s.lane l).silence fun s =>
    (s.setLane l { s.lane l with
      silence := none
      silent := (s.lane l).silent || (s.lane (otherLane l)).silence.isSome }).syncAlarms

/-! ### Frame composer -/

/-- FRAME_TIMER_EXPIRY (R15): a periodic request; the frame timer runs on its own period. -/
def execFrameTimerExpiry (s : State) : Result :=
  onExpiry s s.composer.frameTimer fun s =>
    ({ s with composer := { s.composer with frameTimer := s.after framePeriod } }.request .periodic).finish

/-- SPACING_TIMER_EXPIRY (R16): a waiting request is composed at once, and otherwise the timer stops. -/
def execSpacingTimerExpiry (s : State) : Result :=
  onExpiry s s.composer.spacing fun s => { s with composer := { s.composer with spacing := none } }.finish

end Sys2Proof.Machine
end

