-- ==== Sys2Proof/Machine/Peers.lean ====
section
/-! DEFINITION. The peer table's commands (Section 2): the intake of frames and the expiries of an entry's timers. -/

namespace Sys2Proof.Machine

/-- What becomes of a frame at intake (R26). -/
inductive Verdict where
  | accepted | dualCopy | lateFrame
  deriving DecidableEq, Repr

/-- The distance of a frame number from the last number (R26). -/
def distance (n m : Nat) : Nat := (n + 255 - m) % 255

/-- The table of R26. -/
def verdict (e : PeerEntry) (n : Nat) : Verdict :=
  match e.state, e.lastNumber with
  | .empty, _ => .accepted
  | _, none => .accepted
  | .qualifying, some m | .live, some m =>
    if distance n m = 0 then .dualCopy else if distance n m ≤ 127 then .accepted else .lateFrame
  | .stale, some m | .phantom, some m => if distance n m = 0 then .dualCopy else .accepted

/-- The gap since the last time is one that counts toward qualification (R29). -/
def gapCounts (e : PeerEntry) (now : Nat) : Bool :=
  match e.lastTime with
  | none => false
  | some t => now ≤ t + qualifyGap

/-- The state and the qualify count after an accepted frame (R28, R29). -/
def stateAfter (e : PeerEntry) (now : Nat) : EntryState × Nat :=
  match e.state with
  | .empty => (.qualifying, 1)
  | .qualifying =>
    if gapCounts e now then (if 3 ≤ e.qualifyCount + 1 then (.live, 3) else (.qualifying, e.qualifyCount + 1))
    else (.qualifying, 1)
  | .live => (.live, e.qualifyCount)
  | .stale | .phantom => (.live, 3)

/-- The entry after an accepted frame (R27 to R29). -/
def PeerEntry.accept (e : PeerEntry) (f : Frame) (now : Nat) : PeerEntry :=
  let next := stateAfter e now
  { e with
    state := next.1
    qualifyCount := next.2
    previousSetState := e.record.map (·.setState)
    record := some f.content
    lastNumber := some f.number
    lastTime := some now
    timerFrom := some now }

/-- The trip notice that an accepted frame raises, if any (R30). -/
def tripNoticeOf (i : Station) (before : PeerEntry) (f : Frame) : Option TripNotice :=
  match before.record with
  | some r =>
    if before.state.counted ∧ (r.setState = .loading ∨ r.setState = .sharing ∨ r.setState = .unloading)
        ∧ f.content.setState = .tripped then
      some { station := i, p := r.p, rating := r.rating, tripSection := r.islandSection }
    else none
  | none => none

/-- A frame taken in marks its entry as heard on its lane for 500 ms (R31). -/
def PeerEntry.hear (e : PeerEntry) (l : LaneId) (now : Nat) : PeerEntry :=
  match l with
  | .a => { e with heardA := some (now + heardTime) }
  | .b => { e with heardB := some (now + heardTime) }

/-- The intake of one frame (R26 to R31). -/
def State.takeIn (s : State) (l : LaneId) (f : Frame) : State :=
  let e := s.entry f.station
  match verdict e f.number with
  | .dualCopy =>
    let s := s.setEntry f.station ({ e with dualCopies := bump e.dualCopies }.hear l s.now)
    { s with peers := { s.peers with dualCopies := bump s.peers.dualCopies } }
  | .lateFrame =>
    let s := s.setEntry f.station ({ e with lateFrames := bump e.lateFrames }.hear l s.now)
    { s with peers := { s.peers with lateFrames := bump s.peers.lateFrames } }
  | .accepted =>
    let s := (s.setEntry f.station ((e.accept f s.now).hear l s.now)).spread
    let s := match tripNoticeOf f.station e f with
      | none => s
      | some n => s.takeTripNotice n
    s.finish

/-- The earliest instant of the next intake (R22). -/
def RxQueue.nextIntake (q : RxQueue) : Nat :=
  match q.lastIntake with
  | none => 0
  | some t => t + intakeGap

/-- INTAKE (R22): the oldest frame of the receive queue is removed and taken in, at least 1 ms after the previous
intake. -/
def execIntake (s : State) : Result :=
  whileAwake s fun s =>
    match s.rx.frames with
    | [] => s
    | (l, f) :: rest =>
      let s := s.advanceTo s.rx.nextIntake
      { s with rx := { s.rx with frames := rest, lastIntake := some s.now } }.takeIn l f

/-- ENTRY_TIMER_350 (R32): a LIVE entry becomes STALE; in any other state the expiry does nothing. -/
def execEntryTimer350 (i : Station) (s : State) : Result :=
  onExpiry s (if (s.entry i).state = .live then (s.entry i).timerFrom.map (· + staleTime) else none) fun s =>
    (s.setEntry i { s.entry i with state := .stale }).spread.finish

/-- An entry that has become EMPTY keeps its two counters (R24). -/
def PeerEntry.clear (e : PeerEntry) : PeerEntry := PeerEntry.empty e.lateFrames e.dualCopies

/-- The loss of a STALE entry: PHANTOM where its record's set state is online, and EMPTY otherwise (R33). -/
def PeerEntry.lose (e : PeerEntry) : PeerEntry :=
  if e.record.any (·.setState.online) then { e with state := .phantom, timerFrom := none } else e.clear

/-- What the 1,000 ms expiry makes of an entry: a STALE entry is lost (R33), a QUALIFYING entry becomes EMPTY
(R34). -/
def PeerEntry.expire (e : PeerEntry) : PeerEntry :=
  match e.state with
  | .stale => e.lose
  | .qualifying => e.clear
  | .empty | .live | .phantom => e

/-- ENTRY_TIMER_1000 (R33, R34). It does not reach a LIVE entry, whose 350 ms expiry comes first. -/
def execEntryTimer1000 (i : Station) (s : State) : Result :=
  onExpiry s (if (s.entry i).state = .live then none else (s.entry i).timerFrom.map (· + lossTime)) fun s =>
    (s.setEntry i (s.entry i).expire).spread.finish

/-- The end of the 500 ms for which a lane counts as heard at an entry (R31). -/
def PeerEntry.heard (e : PeerEntry) : LaneId → Timer
  | .a => e.heardA
  | .b => e.heardB

/-- A lane drops out of the lanes heard (R31). -/
def PeerEntry.unhear (e : PeerEntry) : LaneId → PeerEntry
  | .a => { e with heardA := none }
  | .b => { e with heardB := none }

/-- LANES_HEARD_EXPIRY (R31). -/
def execLanesHeardExpiry (i : Station) (l : LaneId) (s : State) : Result :=
  onExpiry s ((s.entry i).heard l) fun s => s.setEntry i ((s.entry i).unhear l)

end Sys2Proof.Machine
end

