-- ==== Sys2Proof/Machine/Clock.lean ====
section
/-! DEFINITION. The passing of time while no command waits (log entry 3): the instants at which the card's timers
expire, and the clock's step. -/

namespace Sys2Proof.Machine

/-- The instants of a list of timers. -/
def running (ts : List Timer) : List Nat := ts.filterMap id

/-- The first instant at which the lane is idle, where it is known (R1). -/
def Quiet.known : Quiet → Timer
  | .notIdle | .unseen _ => none
  | .since t => some t

/-- The instants at which something falls due at a lane interface: its timers, the end of its frame, and the first
instant at which a transmitter in DEFER finds the lane idle (R4 to R7, R12, R13). -/
def LaneIf.deadlines (l : LaneIf) : List Nat :=
  running [l.jam, l.backoff, l.test, l.errorWindow, l.silence, l.completionTime
          , if l.tx = .defer ∧ ¬ l.stuck then l.quietFrom.known else none]

/-- The instants at which something falls due at a peer entry (R31 to R34). -/
def PeerEntry.deadlines (e : PeerEntry) : List Nat :=
  running [match e.state with
           | .live => e.timerFrom.map (· + staleTime)
           | .qualifying | .stale => e.timerFrom.map (· + lossTime)
           | .empty | .phantom => none
          , e.heardA, e.heardB]

/-- The instants at which something falls due at a group channel (R113, R115, R116). -/
def Channel.deadlines (c : Channel) : List Nat := running [c.trip, c.close, c.window]

/-- The instants at which something falls due at a claim (R147, R153, R155, R156). -/
def Claim.deadlines (c : Claim) : List Nat := running [c.ageTimer, c.window, c.waiting, c.hold]

/-- The instants at which the card's timers expire and its next intake falls due (00_scope 6.4, R22). A card without
supply has none. -/
def State.deadlines (s : State) : List Nat :=
  if s.powered then
    s.laneA.deadlines ++ s.laneB.deadlines
    ++ running [s.composer.frameTimer, s.composer.spacing, s.island.returnTimer, s.metering.interval
               , s.seq.startTimer, s.seq.unloadTimer, s.seq.openingTimer, s.seq.startPulse, s.seq.stopPulse
               , s.seq.openPulse, s.duty.evaluation, s.duty.tripRecent, s.groups.closeSpacing, s.ladder.handOff
               , s.ladder.restoreTimer, s.ladder.ageTimer, s.admission.retest, s.loader.loadTimer
               , s.loader.listenTimer, s.service.gap]
    ++ running s.island.tieFilters.toList
    ++ s.peers.entries.toList.flatMap PeerEntry.deadlines
    ++ s.groups.channels.toList.flatMap Channel.deadlines
    ++ s.admission.claims.toList.flatMap Claim.deadlines
    ++ (if s.rx.frames.isEmpty then [] else [s.rx.nextIntake])
  else []

/-- One step without a command: the clock moves on by one bit time of a lane, but not past an instant at which
something falls due, whose own command must come first. -/
def State.idle (s : State) : State := s.advanceTo (s.deadlines.foldl min (s.now + bitTime))

end Sys2Proof.Machine
end

