-- ==== Sys2Proof/Machine/Consumers.lean ====
section
/-! DEFINITION. The admission logic's commands (Section 9): the REQUEST edges and the timers of the claims. -/

namespace Sys2Proof.Machine

/-- The level of a REQUEST input, as it stands at the card's terminals. -/
def State.setRequestPin (s : State) (n : Fin 2) (high : Bool) : State :=
  { s with pins := { s.pins with request := s.pins.request.set n high } }

/-- REQUEST_RISING (R152): taken in RUN on a configured channel whose claim is IDLE. -/
def execRequestRising (n : Fin 2) (s : State) : Result :=
  if s.pins.request[n] then .next s
  else
    .next (let s := s.setRequestPin n true
      if s.awake ∧ s.inRun then (s.takeRequest n).finish else s)

/-- The withdrawal of a claim (R157): it becomes IDLE, GRANT opens, and its timers stop. -/
def State.withdraw (s : State) (n : Fin 2) : State := s.setClaimState n Claim.reset

/-- REQUEST_FALLING (R157). A channel that is not configured holds no claim and its input is not looked at. -/
def execRequestFalling (n : Fin 2) (s : State) : Result :=
  if s.pins.request[n] then
    .next (let s := s.setRequestPin n false
      if s.awake ∧ (s.demand n).isSome then (s.withdraw n).finish else s)
  else .next s

/-- The judgement at the end of a claim window (R153). -/
def State.judgeWindow (s : State) (n : Fin 2) : State :=
  match s.ownIslandClaim n with
  | none => s
  | some c =>
    let fits := s.fits c
    let s := s.noteFit c
    if s.linkOk && fits then s.toGranted n
    else if (s.claim n).outOfTime then s.toRefused n
    else s.toWaiting n

/-- CLAIM_WINDOW_EXPIRY (R153). -/
def execClaimWindowExpiry (n : Fin 2) (s : State) : Result :=
  onExpiry s (if (s.claim n).state = .claiming then (s.claim n).window else none) fun s => (s.judgeWindow n).finish

/-- RETEST_TIMER_EXPIRY (R154): every own claim in WAITING is re-tested, in precedence order. -/
def execRetestTimerExpiry (s : State) : Result :=
  onExpiry s s.admission.retest fun s =>
    let s := { s with admission := { s.admission with retest := s.after retestPeriod } }
    (s.retestOrder.foldl State.retestClaim s).finish

/-- The expiry of a claim's waiting timer (R155): a WAITING claim is refused, and a CLAIMING one gets its
out-of-time mark. -/
def State.waitedOut (s : State) (n : Fin 2) : State :=
  let s := s.setClaim n { s.claim n with waiting := none }
  match (s.claim n).state with
  | .waiting => s.toRefused n
  | .claiming => s.setClaim n { s.claim n with outOfTime := true }
  | .idle | .granted | .consuming | .refused => s

/-- WAITING_TIMER_EXPIRY (R155). -/
def execWaitingTimerExpiry (n : Fin 2) (s : State) : Result :=
  onExpiry s (s.claim n).waiting fun s => (s.waitedOut n).finish

/-- HOLD_TIMER_EXPIRY (R156): a GRANTED claim enters CONSUMING, its GRANT closed, and leaves the list. -/
def execHoldTimerExpiry (n : Fin 2) (s : State) : Result :=
  onExpiry s (if (s.claim n).state = .granted then (s.claim n).hold else none) fun s =>
    (s.setClaimState n { s.claim n with state := .consuming, hold := none }).finish

/-- CLAIM_AGE_TICK (R147): the age rises by 1, up to 255. -/
def execClaimAgeTick (n : Fin 2) (s : State) : Result :=
  onExpiry s (s.claim n).ageTimer fun s =>
    s.setClaim n { s.claim n with age := bump8 (s.claim n).age, ageTimer := s.after agePeriod }

end Sys2Proof.Machine
end

