-- ==== Sys2Proof/Machine/DutyLogic.lean ====
section
/-! DEFINITION. The duty logic's commands (Section 6): the evaluation in its four steps, and the trip-recent timer. -/

namespace Sys2Proof.Machine

/-- High load: 100 × P_load ≥ 85 × R_cap with R_cap above 0 (R99, R101). -/
def Island.highLoad (isl : Island) : Bool := decide (0 < isl.rCap ∧ 85 * (isl.rCap : Int) ≤ 100 * isl.pLoad)

/-- The members in one set state, by start rank and then by identity (R103, R107). -/
def State.inOrder (s : State) (st : SetState) : List Station :=
  (s.island.members.filter (fun i => s.memberState i == some st)).insertionSort
    (fun i j => s.memberRank i * 8 + i.val ≤ s.memberRank j * 8 + j.val)

/-- The start-need counter after its step (R99). -/
def State.needAfter (s : State) : Nat := if s.island.highLoad then min 200 (s.duty.startNeed + 1) else 0

/-- Some island claim stands in one of the given states (R100, R106, R141). -/
def State.claimIn (s : State) (states : List ClaimCode) : Bool := s.islandClaims.any (fun c => states.contains c.state)

/-- The start needs N1 to N4 as an evaluation finds them (R99 to R101), with the counter and the start order. -/
def State.formNeeds (s : State) : Duty :=
  { s.duty with
    startNeed := s.needAfter
    n1 := decide (s.needAfter = 200)
    n2 := s.claimIn [.waiting]
    n3 := decide (s.island.online < 2)
    n4 := s.duty.tripRecent.isSome && s.island.highLoad
    startOrder := s.inOrder .standby }

/-- At least one start need is true (R102). -/
def Duty.anyNeed (d : Duty) : Bool := d.n1 || d.n2 || d.n3 || d.n4

/-- The start check (R104): a need, no member STARTING, and the own set STANDBY and first in the start order. -/
def State.startCheck (s : State) (d : Duty) : Bool :=
  d.anyNeed && !s.memberIn [.starting] && s.seq.state == .standby && d.startOrder.head? == some s.own

/-- The conditions under which the stop counter rises (R106). -/
def State.quiet (s : State) (d : Duty) : Bool :=
  decide (100 * s.island.pLoad ≤ 40 * (s.island.rCap : Int)) && !d.anyNeed
    && !s.memberIn [.starting, .loading, .unloading, .opening] && !s.claimIn [.claiming, .granted, .waiting]

/-- The stop counter after its step (R106). -/
def State.stopAfter (s : State) (d : Duty) : Nat := if s.quiet d then min 3000 (s.duty.stopCounter + 1) else 0

/-- The stop check (R107, R108). -/
def State.stopCheck (s : State) : Bool :=
  (s.inOrder .sharing).getLast? == some s.own && decide (2 < s.island.online)
    && decide (100 * s.island.pLoad ≤ 75 * ((s.island.rCap : Int) - s.conf.rating))

/-- An evaluation (R97). Every step reads the island as it stood at the start: `s` throughout. -/
def State.evaluate (s : State) : State :=
  let d := s.formNeeds
  let stop := s.stopAfter d
  let stopNow := decide (stop = 3000) && s.stopCheck
  let t := { s with duty := { d with stopCounter := if stopNow then 0 else stop } }
  let t := if d.anyNeed then t.abortUnload else t
  let t := if s.startCheck d then t.takeStart else t
  if stopNow then t.takeStop else t

/-- EVALUATION (R95, R97): the evaluation timer restarts at each expiry. -/
def execEvaluation (s : State) : Result :=
  onExpiry s s.duty.evaluation fun s =>
    { s with duty := { s.duty with evaluation := s.after evaluationPeriod } }.evaluate.finish

/-- TRIP_RECENT_TIMER_EXPIRY (R98). -/
def execTripRecentTimerExpiry (s : State) : Result :=
  onExpiry s s.duty.tripRecent fun s => { s with duty := { s.duty with tripRecent := none } }

end Sys2Proof.Machine
end

