-- ==== Sys2Proof/Machine/Regulation.lean ====
section
/-! DEFINITION. The metering front end and the share regulator (Section 4): the forming of a record, the three ways
of taking it, and what else a delivered record moves. -/

namespace Sys2Proof.Machine

/-! ### Forming a record (R54, R55) -/

/-- The bus is valid at 10 % of the nominal voltage and above (R55). -/
def busValidAt (voltage vNom : Nat) : Bool := vNom ≤ 10 * voltage

/-- The record formed from a measurement, each value clamped (R55). -/
def formRecord (m : Measurement) (vNom : Nat) : MeterRecord :=
  let v := (clampInt 0 15000 m.voltage).toNat
  let valid := busValidAt v vNom
  { p := clampInt (-32000) 32000 m.p
    q := clampInt (-32000) 32000 m.q
    frequency := if valid then (clampInt 40000 65535 m.frequency).toNat else 0
    voltage := v
    busValid := valid }

/-! ### The share regulator (R59 to R72) -/

/-- The notices of the regulator (R65, R67). -/
inductive Notice where
  | loadingComplete | unloaded
  deriving DecidableEq, Repr

/-- The three ways of taking a record (R59). -/
inductive RecordCase where
  | offline | held | worked
  deriving DecidableEq, Repr

/-- The first case of R59 that applies. -/
def recordCase (run : Bool) (st : SetState) (mode : SharingMode) (busValid : Bool) : RecordCase :=
  if !run || !st.online then .offline
  else if mode == .droop || !busValid || st == .opening then .held
  else .worked

/-- A pool target: the pool's per-unit share, or none for an empty pool (R62). -/
def poolTarget (load : Int) (rating : Nat) : Option Int := if rating = 0 then none else some (perUnit load rating)

/-- The ramp target, the real-power target and the loading-complete notice of a worked record (R63 to R66). -/
structure Ramped where
  ramp : Option Int
  target : Option Int
  complete : Bool
  deriving DecidableEq, Repr

/-- The step of the ramp at a worked record (R63 to R66). An unset ramp target takes the record's own load and does
not step (R64). -/
def stepRamp (step : Nat) (st : SetState) (ramp : Option Int) (own : Int) (pStar : Option Int) : Ramped :=
  match st, ramp, pStar with
  | .loading, none, _ => { ramp := some own, target := some own, complete := false }
  | .loading, some t, some p =>
    { ramp := some (min (t + step) p), target := some (min (t + step) p), complete := decide (min (t + step) p = p) }
  | .loading, some t, none => { ramp := some t, target := none, complete := true }
  | .unloading, none, _ => { ramp := some own, target := some own, complete := false }
  | .unloading, some t, _ => { ramp := some (max (t - step) 500), target := some (max (t - step) 500), complete := false }
  | _, r, p => { ramp := r, target := p, complete := false }

/-- A sharing or a bus error: what is wanted less what is, its deadband, and the clamp to ±2,000; 0 where nothing is
wanted (R69, R70). -/
def errorOf (band : Int) (wanted : Option Int) (actual : Int) : Int :=
  match wanted with
  | none => 0
  | some w => clampInt (-2000) 2000 (deadband band (w - actual))

/-- An increment: the weighted sum of two errors, divided by 1,024 and rounded (R71). -/
def increment (k1 : Nat) (e1 : Int) (k2 : Nat) (e2 : Int) : Int := roundDiv (k1 * e1 + k2 * e2) 1024

/-- A bias moved by its increment and saturated (R72). -/
def moveBias (bias delta : Int) : Int := clampInt (-10000) 10000 (bias + delta)

/-- The notice due after a worked record (R65, R67). -/
def noticeOf (st : SetState) (complete : Bool) (own : Int) : Option Notice :=
  if complete then some .loadingComplete
  else if st = .unloading ∧ own ≤ 600 then some .unloaded
  else none

/-- A worked record, in the order of the table of 4.5. -/
def workRecord (c : Configuration) (isl : Island) (st : SetState) (reg : Regulator) (r : MeterRecord) :
    Regulator × Option Notice :=
  let own := perUnit r.p c.rating
  let ramped := stepRamp c.rampStep st reg.rampTarget own (poolTarget isl.pPool isl.rPool)
  let eP := errorOf 50 ramped.target own
  let eQ := errorOf 100 (poolTarget isl.qPool isl.qrPool) (perUnit r.q c.reactiveRating)
  let eF := errorOf 20 (some c.fNom) r.frequency
  let eV := errorOf 10 (some c.vNom) r.voltage
  ({ speedBias := moveBias reg.speedBias (increment c.kp eP c.kf eF)
     voltBias := moveBias reg.voltBias (increment c.kq eQ c.kv eV)
     rampTarget := ramped.ramp }
  , noticeOf st ramped.complete own)

/-- A held record: both biases stay, and an unset ramp target is set without a step (R60, R64). -/
def holdRecord (c : Configuration) (st : SetState) (reg : Regulator) (r : MeterRecord) : Regulator :=
  if (st = .loading ∨ st = .unloading) ∧ reg.rampTarget = none then
    { reg with rampTarget := some (perUnit r.p c.rating) }
  else reg

/-- The regulator takes a record (R59). -/
def regulate (c : Configuration) (run : Bool) (isl : Island) (st : SetState) (reg : Regulator) (r : MeterRecord) :
    Regulator × Option Notice :=
  match recordCase run st isl.mode r.busValid with
  | .offline => (reg, none)
  | .held => (holdRecord c st reg r, none)
  | .worked => workRecord c isl st reg r

/-- The set sequencer takes a notice of the regulator (R86, R93). -/
def State.takeNotice (s : State) : Option Notice → State
  | none => s
  | some .loadingComplete => s.takeLoadingComplete
  | some .unloaded => s.takeUnloaded

/-! ### The analog outputs (R74, R171) -/

/-- The voltage that presents a bias: bias × 3 / 10,000 V, which is 0.3 mV for each unit (R74, R171). -/
def biasVolts (bias : Int) : ℚ := bias * 3 / 10000

/-- The SPEED BIAS output, in volts: it follows the speed bias at each change (R74). -/
def State.speedBiasOutput (s : State) : ℚ := biasVolts s.regulator.speedBias

/-- The VOLT BIAS output, in volts: it follows the voltage bias at each change (R74). -/
def State.voltBiasOutput (s : State) : ℚ := biasVolts s.regulator.voltBias

/-! ### The stage counters (R132, R133) -/

/-- A stage counter's step at a record. -/
def stepCount (holds : Bool) (n : Nat) : Nat := if holds then n + 1 else 0

/-- The stage counters step at a record of the card in RUN with R_cap above 0, and are 0 otherwise; a counter at its
limit clears all three and requests a slow step. -/
def State.stepStages (s : State) (isl : Island) (r : MeterRecord) : State :=
  if s.inRun ∧ 0 < isl.rCap then
    let a := stepCount (decide ((isl.rCap : Int) ≤ isl.pLoad)) s.ladder.stageA
    let b := stepCount (decide (11 * (isl.rCap : Int) ≤ 10 * isl.pLoad)) s.ladder.stageB
    let f := stepCount (r.busValid && decide (100 * r.frequency ≤ 97 * s.conf.fNom)) s.ladder.stageF
    if 100 ≤ a ∨ 20 ≤ b ∨ 10 ≤ f then
      { s with ladder := { s.ladder with stageA := 0, stageB := 0, stageF := 0 } }.requestStep
    else { s with ladder := { s.ladder with stageA := a, stageB := b, stageF := f } }
  else { s with ladder := { s.ladder with stageA := 0, stageB := 0, stageF := 0 } }

/-! ### Delivery (R57) -/

/-- A record reaches the front end, the composer and the island resolver (R18, R45, R53, R57). -/
def State.receiveRecord (s : State) (r : MeterRecord) : State :=
  State.resolve { s with
    metering := { s.metering with latest := some r }
    composer := { s.composer with arrival := true, freshCount := min 2 (s.composer.freshCount + 1) }
    island := s.island.refreshOwn (!s.composer.meterFail) (some r) }

/-- A record delivered (R57): the resolver takes it first, the regulator works against the quantities so formed, its
notice goes to the set sequencer, and the stage counters read the quantities the record found. -/
def State.deliver (s : State) (r : MeterRecord) : State :=
  let s := s.receiveRecord r
  let isl := s.island
  let out := regulate s.conf s.inRun isl s.seq.state s.regulator r
  let s := { s with regulator := out.1 }.takeNotice out.2
  (s.stepStages isl r).finish

/-- METERING_INTERVAL_EXPIRY (R53 to R56): the interval timer restarts; an interval whose self-check failed forms no
record, a record in warm-up is discarded, and any other is delivered. -/
def execMeteringIntervalExpiry (m : Measurement) (s : State) : Result :=
  onExpiry s s.metering.interval fun s =>
    let s := { s with metering := { s.metering with interval := s.after meteringInterval } }
    if m.referenceHeld && m.channelsDone then
      if 0 < s.metering.warmUp then { s with metering := { s.metering with warmUp := s.metering.warmUp - 1 } }
      else s.deliver (formRecord m s.conf.vNom)
    else s

end Sys2Proof.Machine
end

