-- ==== Sys2Proof/Machine/ShedLadder.lean ====
section
/-! DEFINITION. The shed ladder's commands (Section 8): the hand-off, the restore check and the own action age. The
stage counters step with a metering record, and the block shed with a trip notice. -/

namespace Sys2Proof.Machine

/-- HANDOFF_TIMER_EXPIRY (R136): the key in flight joins the skip set and the step continues at once. -/
def execHandoffTimerExpiry (s : State) : Result :=
  onExpiry s s.ladder.handOff fun s =>
    match s.ladder.inFlight with
    | none => s
    | some k =>
      let skip := if s.ladder.skip.contains k then s.ladder.skip else s.ladder.skip ++ [k]
      { s with ladder := { s.ladder with skip, inFlight := none, handOff := none } }.takeStep.nextStep.finish

/-- The island action age (R131): the least of the own age and the ages LIVE and STALE members report. -/
def State.islandActionAge (s : State) : Nat :=
  s.island.members.foldl
    (fun age i =>
      if i ≠ s.own ∧ (s.entry i).state.offered then
        match (s.entry i).record with
        | none => age
        | some r => min age r.actionAge
      else age)
    s.ladder.actionAge

/-- Whether a guard of the restore check holds, the island action age being given (R141). -/
def State.guardHolds (s : State) (age : Nat) : Guard → Bool
  | .countersClear => s.ladder.stageA == 0 && s.ladder.stageB == 0 && s.ladder.stageF == 0
  | .noStep => s.ladder.inFlight.isNone
  | .ageReached => decide (100 ≤ age)
  | .noneStarting => !s.memberIn [.starting, .loading]
  | .noClaim => !s.claimIn [.claiming, .waiting]
  | .capacity => decide (0 < s.island.rCap)

/-- The guards in the order of R141. -/
def Guard.all : List Guard := [.countersClear, .noStep, .ageReached, .noneStarting, .noClaim, .capacity]

/-- The candidate: the last ladder entry that is SHED and whose owner is the own card or a LIVE peer (R142). -/
def Ladder.restoreCandidate (l : Ladder) : Option LadderEntry :=
  l.entries.reverse.find? (fun e => e.state == .shed && e.owner != .stale)

/-- The candidate's load fits within 85 % of capacity (R142). -/
def Island.restoreFits (isl : Island) (e : LadderEntry) : Bool :=
  decide ((isl.pLoad + e.nominal) * 10000 ≤ 8500 * (isl.rCap : Int))

/-- The candidate of a check: none where a guard failed (R142). -/
def State.candidateNow (s : State) (failed : List Guard) : Option LadderEntry :=
  if failed.isEmpty then s.ladder.restoreCandidate else none

/-- The restore check (R141, R142): it keeps what it found, and commands the restore of an own candidate that
passes. -/
def State.restoreCheck (s : State) : State :=
  let age := s.islandActionAge
  let failed := Guard.all.filter (fun g => !s.guardHolds age g)
  let candidate := s.candidateNow failed
  let t := { s with ladder := { s.ladder with islandAge := age, failedGuards := failed
                                              candidate := candidate.map LadderEntry.key } }
  match candidate with
  | none => t
  | some e => if s.island.restoreFits e ∧ e.owner = .own then t.commandRestore e.index else t

/-- RESTORE_CHECK (R141): the restore timer restarts at each expiry. -/
def execRestoreCheck (s : State) : Result :=
  onExpiry s s.ladder.restoreTimer fun s =>
    { s with ladder := { s.ladder with restoreTimer := s.after restorePeriod } }.restoreCheck.finish

/-- ACTION_AGE_TICK (R130): the own action age rises by 1, up to 255. -/
def execActionAgeTick (s : State) : Result :=
  onExpiry s s.ladder.ageTimer fun s =>
    { s with ladder := { s.ladder with actionAge := bump8 s.ladder.actionAge, ageTimer := s.after agePeriod } }

end Sys2Proof.Machine
end

