-- ==== Sys2Proof/Machine/Payloads.lean ====
section
/-! DEFINITION. The payloads of the service port's responses, byte by byte (R121, R145, R161, R176, R177, R180). -/

namespace Sys2Proof.Machine

/-! ### How values are sent (R176) -/

/-- A time remaining: two bytes in units of 10 ms, 0 while the timer is stopped. How a remainder is treated is left
open (log entry 5). -/
def State.timeLeft (s : State) (t : Timer) : List Byte :=
  let us := s.remaining t
  bytes16 (us / 10000 + if us % 10000 = 0 then 0 else (Config.roundTimeUp us).toNat)

/-- A list: its count, then its members. -/
def listBytes {α : Type} (xs : List α) (f : α → List Byte) : List Byte := byteOf xs.length :: xs.flatMap f

/-- A value that may be absent: a byte of 1 before it, or a 0 in its place. -/
def optionBytes {α : Type} (x : Option α) (f : α → List Byte) : List Byte :=
  match x with
  | none => [0]
  | some a => 1 :: f a

/-- The place of a card mode in the table of 10.1. -/
def CardMode.code : CardMode → Nat
  | .load => 0 | .listen => 1 | .run => 2 | .mute => 3

/-- The place of an entry state in the table of 2.3. -/
def EntryState.code : EntryState → Nat
  | .empty => 0 | .qualifying => 1 | .live => 2 | .stale => 3 | .phantom => 4

/-- The place of a transmitter state in the table of 1.5. -/
def TxState.code : TxState → Nat
  | .idle => 0 | .defer => 1 | .send => 2 | .backoff => 3 | .isolated => 4 | .disabled => 5

/-- The place of a lane health in the table of 1.8. -/
def LaneHealth.code : LaneHealth → Nat
  | .stuck => 0 | .silent => 1 | .degraded => 2 | .ok => 3

/-- The code of an entry's owner: own card, LIVE, STALE (R145). -/
def OwnerKind.code : OwnerKind → Nat
  | .own => 0 | .live => 1 | .stale => 2

/-- The code of a kind of unload. -/
def UnloadKind.code : UnloadKind → Nat
  | .none => 0 | .manual => 1 | .automatic => 2

/-- The code of a sharing mode. -/
def SharingMode.code : SharingMode → Nat
  | .isoch => 0 | .droop => 1

/-- The code of the command after FAILED (R176). -/
def GroupCommand.code : GroupCommand → Nat
  | .shed => 0 | .restore => 1

/-- Three ties as three flags. -/
def TieView.flags (v : TieView) : List Byte := [flagByte v.tie1, flagByte v.tie2, flagByte v.tie3]

/-- A station as its identity number. -/
def stationByte (i : Station) : Byte := byteOf i.num

/-- A ladder key: the station identity and the group index. -/
def Key.bytes (k : Key) : List Byte := [stationByte k.station, byteOf k.index.val]

/-! ### STATUS -/

/-- The strap values, each as the value it gives. -/
def strapBytes (st : StrapPins) : List Byte :=
  [stationByte (strapIdentity st.identity), byteOf (strapSectionOf st.strapSection)]
  ++ bytes16 (strapRating st.ratingClass) ++ bytes16 (strapFrequency st.frequency)

/-- A group record in the field order of R110. -/
def GroupRecord.bytes (g : GroupRecord) : List Byte :=
  [byteOf g.index.val, byteOf g.rank] ++ bytes16 g.nominal ++ [flagByte g.sheddable]

/-- The configuration in use, in the order of the rows of R164. -/
def Configuration.bytes (c : Configuration) : List Byte :=
  [stationByte c.identity, byteOf c.ownSection] ++ bytes16 c.fNom ++ bytes16 c.rating ++ bytes16 c.reactiveRating
  ++ bytes16 c.vNom
  ++ [byteOf c.kp, byteOf c.kf, byteOf c.kq, byteOf c.kv, byteOf c.rampStep, byteOf c.startRank, byteOf c.select.code
  , byteOf c.threshold]
  ++ listBytes c.groups GroupRecord.bytes ++ listBytes c.demands bytes16

/-- The loader's part of STATUS. -/
def State.loaderStatus (s : State) : List Byte :=
  byteOf s.mode.code
  :: strapBytes s.loader.straps
  ++ s.conf.bytes ++ [flagByte (s.loader.firstFault != 0), byteOf s.loader.firstFault]

/-- The timer of the start, unload and opening timers that runs. -/
def Sequencer.runningTimer (q : Sequencer) : Timer := q.startTimer.or (q.unloadTimer.or q.openingTimer)

/-- The set sequencer's part of STATUS. -/
def State.setStatus (s : State) : List Byte :=
  [flagByte s.pins.breaker, flagByte s.pins.running, flagByte s.pins.available, flagByte s.pins.unload]
  ++ s.pins.tieView.flags
  ++ [byteOf s.seq.state.code, flagByte s.seq.pendingUnload, byteOf s.seq.unloadKind.code
  , flagByte s.seq.startPulse.isSome, flagByte s.seq.stopPulse.isSome, flagByte s.seq.openPulse.isSome
  , flagByte s.seq.closePermit, flagByte s.island.droopOut]
  ++ s.timeLeft s.seq.runningTimer

/-- The island section set: bit `k - 1` for each section `k`. -/
def sectionBits (sections : List Nat) : Nat := (sections.map (fun k => 2 ^ (k - 1))).sum

/-- The island resolver's part of STATUS. -/
def State.islandStatus (s : State) : List Byte :=
  s.island.tieView.flags ++ [byteOf (sectionBits s.island.sections)]
  ++ signed32 s.island.pLoad ++ signed32 s.island.rCap ++ signed32 s.island.qrCap ++ [byteOf s.island.online]
  ++ signed32 s.island.pPool ++ signed32 s.island.rPool ++ signed32 s.island.qPool ++ signed32 s.island.qrPool
  ++ bytes16 s.island.frequency ++ [flagByte s.island.tieDisagree, byteOf s.island.mode.code]
  ++ s.timeLeft s.island.returnTimer

/-- A metering record. -/
def MeterRecord.bytes (r : MeterRecord) : List Byte :=
  signed16 r.p ++ signed16 r.q ++ bytes16 r.frequency ++ bytes16 r.voltage ++ [flagByte r.busValid]

/-- The failed restore guards: bit `k` for the guard at place `k`. -/
def guardBits (failed : List Guard) : Nat := (failed.map (fun g => 2 ^ Guard.all.idxOf g)).sum

/-- The metering, regulator and ladder parts of STATUS. -/
def State.ladderStatus (s : State) : List Byte :=
  optionBytes s.metering.latest MeterRecord.bytes
  ++ signed16 s.regulator.speedBias ++ signed16 s.regulator.voltBias ++ optionBytes s.regulator.rampTarget signed16
  ++ [byteOf s.ladder.stageA, byteOf s.ladder.stageB, byteOf s.ladder.stageF, byteOf s.ladder.actionAge
  , byteOf s.ladder.islandAge, byteOf (guardBits s.ladder.failedGuards)]
  ++ optionBytes s.ladder.candidate Key.bytes

/-- The duty logic's part of STATUS. -/
def State.dutyStatus (s : State) : List Byte :=
  byteOf s.duty.startNeed :: bytes16 s.duty.stopCounter
  ++ [flagByte s.duty.n1, flagByte s.duty.n2, flagByte s.duty.n3, flagByte s.duty.n4]
  ++ s.timeLeft s.duty.tripRecent ++ listBytes s.duty.startOrder (fun i => [stationByte i])

/-- One lane's part of STATUS. -/
def LaneIf.status (l : LaneIf) : List Byte := [byteOf l.tx.code, byteOf l.health.code, byteOf l.errorCount]

/-- The STATUS payload. -/
def State.statusPayload (s : State) : List Byte :=
  s.loaderStatus ++ s.setStatus ++ s.islandStatus ++ s.ladderStatus ++ s.dutyStatus
  ++ s.laneA.status ++ s.laneB.status ++ [flagByte s.linkOk, flagByte s.composer.meterFail]

/-! ### PEER -/

/-- A peer's record, in the field order of 2.2. -/
def PeerRecord.bytes (r : PeerRecord) : List Byte :=
  [byteOf r.islandSection, byteOf r.startRank] ++ r.tieView.flags
  ++ [byteOf r.setState.code, flagByte r.flags.breakerClosed, flagByte r.flags.stale, flagByte r.flags.droop
  , flagByte r.flags.configFault, flagByte r.flags.unloadPending]
  ++ bytes16 r.rating ++ bytes16 r.reactiveRating ++ signed16 r.p ++ signed16 r.q ++ bytes16 r.frequency
  ++ [byteOf r.actionAge]
  ++ listBytes r.groups (fun g => [byteOf g.index.val, byteOf g.rank] ++ bytes16 g.nominal ++ [byteOf g.state.code])
  ++ listBytes r.claims (fun c => byteOf c.index.val :: bytes16 c.demand ++ [byteOf c.state.code, byteOf c.age])

/-- The time since the last acceptance: 10 ms units, saturating at 65,535, 0 while there is none. How a remainder is
treated is left open (log entry 6). -/
def State.sinceAcceptance (s : State) (e : PeerEntry) : List Byte :=
  match e.lastTime with
  | none => bytes16 0
  | some t =>
    let us := s.now - t
    bytes16 (min 65535 (us / 10000 + if us % 10000 = 0 then 0 else (Config.roundAgeUp us).toNat))

/-- The PEER payload of a station (R176). -/
def State.peerPayload (s : State) (i : Station) : List Byte :=
  let e := s.entry i
  [stationByte i, byteOf e.state.code] ++ optionBytes e.lastNumber (fun n => [byteOf n])
  ++ s.sinceAcceptance e
  ++ [byteOf e.qualifyCount, flagByte e.heardA.isSome, flagByte e.heardB.isSome]
  ++ optionBytes e.previousSetState (fun st => [byteOf st.code])
  ++ bytes16 e.lateFrames ++ bytes16 e.dualCopies ++ optionBytes e.record PeerRecord.bytes

/-! ### LADDER, CLAIMS, GROUPS -/

/-- One entry of the LADDER payload (R145). -/
def Ladder.entryBytes (l : Ladder) (e : LadderEntry) : List Byte :=
  [stationByte e.station, byteOf e.index.val, byteOf e.rank] ++ bytes16 e.nominal
  ++ [byteOf e.state.code, byteOf e.owner.code, flagByte (l.skip.contains e.key)]

/-- The LADDER payload (R145). -/
def State.ladderPayload (s : State) : List Byte :=
  listBytes s.ladder.entries s.ladder.entryBytes ++ signed32 s.ladder.relief
  ++ optionBytes s.ladder.inFlight (fun k => k.bytes ++ s.timeLeft s.ladder.handOff) ++ [flagByte s.ladder.held]

/-- One consumer channel of the CLAIMS payload (R161). A channel that is not configured has its REQUEST level and its
GRANT output, and no demand and no claim (R146). -/
def State.claimBytes (s : State) (n : Fin 2) : List Byte :=
  let c := s.claim n
  match s.demand n with
  | none => [0, flagByte s.pins.request[n], flagByte c.grant]
  | some d =>
    1 :: bytes16 d ++ [flagByte s.pins.request[n], flagByte c.grant, byteOf c.state.code, byteOf c.age]
    ++ s.timeLeft c.window ++ s.timeLeft c.waiting ++ s.timeLeft c.hold ++ [flagByte c.outOfTime]

/-- An island claim of the CLAIMS payload (R161). -/
def IslandClaim.bytes (c : IslandClaim) : List Byte :=
  [stationByte c.station, byteOf c.index.val, byteOf c.state.code] ++ bytes16 c.demand ++ [byteOf c.age]

/-- The CLAIMS payload (R161). -/
def State.claimsPayload (s : State) : List Byte :=
  s.claimBytes 0 ++ s.claimBytes 1 ++ signed32 s.admission.headroom ++ listBytes s.admission.found IslandClaim.bytes

/-- A group state on GROUPS: its code, with the command after FAILED (R176). -/
def GroupState.bytes : GroupState → List Byte
  | .failed c => [byteOf GroupCode.failed.code, byteOf c.code]
  | st => [byteOf st.frameCode.code]

/-- One channel of the GROUPS payload (R121). -/
def State.groupBytes (s : State) (i : Fin 6) : List Byte :=
  match s.groupRecord i, (s.channel i).state with
  | some g, some st =>
    let c := s.channel i
    1 :: g.bytes ++ st.bytes
    ++ [flagByte s.pins.feedback[i], flagByte c.openingSeen, flagByte c.closingSeen, flagByte c.trip.isSome
    , flagByte c.close.isSome, flagByte c.tripHeld] ++ s.timeLeft c.window
  | _, _ => [0]

/-- The GROUPS payload (R121). -/
def State.groupsPayload (s : State) : List Byte :=
  (List.finRange 6).flatMap s.groupBytes ++ s.timeLeft s.groups.closeSpacing

/-! ### ALARMS and COUNTERS -/

/-- The ALARMS payload (R176, R177). DESIGN CHOICE (log entry 35; unsafe): the last byte is 1 for an energised ALARM relay
and 0 for a de-energised one. -/
def State.alarmsPayload (s : State) : List Byte :=
  AlarmKind.all.flatMap (fun k => [flagByte (s.active k), flagByte (s.alarms.latched.contains k)])
  ++ [flagByte s.alarms.relay]

/-- The five counters of a lane, in the order of R180. -/
def LaneIf.counters (l : LaneIf) : List Nat :=
  [l.goodFrames, l.checkErrors, l.collisions, l.collisionDrops, l.replaced]

/-- The 14 counters, in the order of R180. -/
def State.counters (s : State) : List Nat :=
  s.laneA.counters ++ s.laneB.counters ++ [s.rx.overruns, s.peers.lateFrames, s.peers.dualCopies, s.service.overruns]

/-- The COUNTERS payload (R180). -/
def State.countersPayload (s : State) : List Byte := s.counters.flatMap bytes16

/-- The CLEAR_ALARMS payload: the places of the kinds whose latches remain set (R176, R179). DESIGN CHOICE (log entry 35;
unsafe): the places stand in ascending order. -/
def State.latchedPayload (s : State) : List Byte := listBytes s.alarms.latched (fun k => [byteOf k.place])

end Sys2Proof.Machine
end

