-- ==== Sys2Proof/Machine/ServiceOps.lean ====
section
/-! DEFINITION. The exchange on the service port (R172 to R175) and what each kind of request does (R36, R119, R120,
R170, R174, R179, R180). -/

namespace Sys2Proof.Machine

/-! ### Replies -/

/-- The reject reasons (R172). -/
inductive Reason where
  | badRequest | badArgument | notPhantom | groupBusy | setOnline
  deriving DecidableEq, Repr

/-- The code of a reject reason (R172). -/
def Reason.code : Reason → Nat
  | .badRequest => 1 | .badArgument => 2 | .notPhantom => 3 | .groupBusy => 4 | .setOnline => 5

/-- What a request is answered: OK with a payload, or REJECT with a reason (R172). -/
inductive Reply where
  | ok (payload : List Byte)
  | reject (reason : Reason)
  deriving DecidableEq, Repr

/-- The bytes of a response (R172). -/
def responseBytes (kind : Nat) (r : Reply) : List Byte :=
  let body := match r with
    | .ok payload => 0 :: payload
    | .reject reason => [1, byteOf reason.code]
  withCheck (0x9A#8 :: bytes16 (5 + body.length) ++ byteOf kind :: body)

/-- The port enters RESPONDING with a response, and the gap timer stops (R174). -/
def State.respond (s : State) (kind : Nat) (r : Reply) : State :=
  { s with service := { s.service with state := .responding, bytes := [], gap := none
                                       response := responseBytes kind r } }

/-! ### What each kind does -/

/-- PEER (R176). -/
def State.servePeer (s : State) (arg : Nat) : State × Reply :=
  match stationOf arg with
  | none => (s, .reject .badArgument)
  | some i => (s, .ok (s.peerPayload i))

/-- CLEAR_ALARMS (R179). -/
def State.serveClearAlarms (s : State) : State × Reply :=
  let s := s.clearLatches
  (s, .ok s.latchedPayload)

/-- A lane's five counters at 0. -/
def LaneIf.clearCounters (l : LaneIf) : LaneIf :=
  { l with goodFrames := 0, checkErrors := 0, collisions := 0, collisionDrops := 0, replaced := 0 }

/-- An entry's two counters at 0. -/
def PeerEntry.clearCounters (e : PeerEntry) : PeerEntry := { e with lateFrames := 0, dualCopies := 0 }

/-- CLEAR_COUNTERS (R180): the 14 counters and the two of every peer entry become 0. -/
def State.serveClearCounters (s : State) : State × Reply :=
  let s := stations.foldl (fun s i => s.setEntry i (s.entry i).clearCounters) s
  ({ s with laneA := s.laneA.clearCounters, laneB := s.laneB.clearCounters
            rx := { s.rx with overruns := 0 }
            peers := { s.peers with lateFrames := 0, dualCopies := 0 }
            service := { s.service with overruns := 0 } }
  , .ok [])

/-- CLEAR_PHANTOM (R36). -/
def State.serveClearPhantom (s : State) (arg : Nat) : State × Reply :=
  match stationOf arg with
  | none => (s, .reject .badArgument)
  | some i =>
    if (s.entry i).state = .phantom then
      ((s.setEntry i (PeerEntry.empty (s.entry i).lateFrames (s.entry i).dualCopies)).spread.finish, .ok [])
    else (s, .reject .notPhantom)

/-- The channel an argument names, where it is 0 to 5 and the channel is configured (R119, R120). -/
def State.namedChannel (s : State) (arg : Nat) : Option (Fin 6 × GroupState) :=
  if h : arg < 6 then (s.channel ⟨arg, h⟩).state.map (fun st => (⟨arg, h⟩, st)) else none

/-- Clears both marks of a channel's edge latch (R119, R120). -/
def State.clearMarks (s : State) (i : Fin 6) : State :=
  s.setChannel i { s.channel i with openingSeen := false, closingSeen := false }

/-- INHIBIT (R119). -/
def State.serveInhibit (s : State) (arg : Nat) : State × Reply :=
  match s.namedChannel arg with
  | none => (s, .reject .badArgument)
  | some (_, .shedPending) | some (_, .restorePending) => (s, .reject .groupBusy)
  | some (_, .inhibited) => (s, .ok [])
  | some (i, .connected) | some (i, .shed) | some (i, .failed _) | some (i, .openExternal) =>
    (((s.clearMarks i).setGroupState i .inhibited).finish, .ok [])

/-- ENABLE (R120). -/
def State.serveEnable (s : State) (arg : Nat) : State × Reply :=
  match s.namedChannel arg with
  | none => (s, .reject .badArgument)
  | some (i, .inhibited) =>
    (((s.clearMarks i).setGroupState i (if s.pins.feedback[i] then .connected else .openExternal)).finish, .ok [])
  | some (_, _) => (s, .ok [])

/-- RESTART (R170): accepted while the set is not online, and a restart is then in progress. -/
def State.serveRestart (s : State) : State × Reply :=
  if s.seq.state.restartable then ({ s with loader := { s.loader with restartInProgress := true } }, .ok [])
  else (s, .reject .setOnline)

/-- A request of good form is handed to the block that owns its matter (R174). -/
def State.serve (s : State) (kind arg : Nat) : State × Reply :=
  match kind with
  | 1 => (s, .ok s.statusPayload)
  | 2 => s.servePeer arg
  | 3 => (s, .ok s.ladderPayload)
  | 4 => (s, .ok s.claimsPayload)
  | 5 => (s, .ok s.groupsPayload)
  | 6 => (s, .ok s.alarmsPayload)
  | 7 => (s, .ok s.countersPayload)
  | 8 => s.serveClearAlarms
  | 9 => s.serveClearCounters
  | 10 => s.serveClearPhantom arg
  | 11 => s.serveInhibit arg
  | 12 => s.serveEnable arg
  | 13 => s.serveRestart
  | _ => (s, .reject .badRequest)

/-- A request is taken at its last byte (R174): its form is judged, and one of good form is served. -/
def State.takeMessage (s : State) (bs : List Byte) : State :=
  let kind := (bs.getD 2 0).toNat
  if requestFormGood bs then
    let out := s.serve kind (bs.getD 3 0).toNat
    out.1.respond kind out.2
  else s.respond kind (.reject .badRequest)

/-! ### Bytes -/

/-- A byte received in RECEIVING (R173). -/
def State.receiveByte (s : State) (b : Byte) : State :=
  let bs := s.service.bytes ++ [b]
  let kept := { s with service := { s.service with bytes := bs, gap := s.after gapTime } }
  if bs.length = 2 then
    if b = 4 ∨ b = 5 then kept
    else { kept with service := { kept.service with state := .resync, bytes := [], badLength := true } }
  else if bs.length = (bs.getD 1 0).toNat then s.takeMessage bs
  else kept

/-- A byte received at the port, by its receive state (R173). -/
def State.takeByte (s : State) (b : Byte) : State :=
  match s.service.state with
  | .idle =>
    if b = 0x6D#8 then { s with service := { s.service with state := .receiving, bytes := [b], gap := s.after gapTime } }
    else { s with service := { s.service with state := .resync, gap := s.after gapTime } }
  | .receiving => s.receiveByte b
  | .resync => { s with service := { s.service with gap := s.after gapTime } }
  | .responding => { s with service := { s.service with overrun := true } }

/-- The bytes of a message that are still to come: where the port has already received its first bytes, the rest,
and otherwise all of it (log entry 9). -/
def State.bytesToCome (s : State) (bs : List Byte) : List Byte :=
  if s.service.state = .receiving ∧ s.service.bytes = bs.take s.service.bytes.length then
    bs.drop s.service.bytes.length
  else bs

/-- The bytes of a message reach the port, one after another. -/
def State.takeBytes (s : State) (bs : List Byte) : State := bs.foldl State.takeByte s

/-- A whole request reaches the port up to its last byte. In LOAD nothing is received (R175). -/
def serviceRequest (bs : List Byte) (s : State) : Result := whileAwake s fun s => s.takeBytes (s.bytesToCome bs)

end Sys2Proof.Machine
end

