-- ==== Sys2Proof/Machine/Service.lean ====
section
/-! DEFINITION. The service port's commands (Section 11): one for each kind of request, the single byte, the gap
timer and the end of a response. -/

namespace Sys2Proof.Machine

/-- SERVICE_BYTE_RECEIVED (R173). -/
def execServiceByteReceived (b : Byte) (s : State) : Result := whileAwake s fun s => s.takeByte b

/-- What the gap timer's expiry makes of the port (R173). -/
def State.endGap (s : State) : State :=
  let s := { s with service := { s.service with gap := none } }
  match s.service.state with
  | .receiving => { s with service := { s.service with state := .idle, bytes := [] } }
  | .resync =>
    if s.service.badLength then
      { s with service := { s.service with badLength := false } }.respond 0 (.reject .badRequest)
    else { s with service := { s.service with state := .idle } }
  | .idle | .responding => s

/-- SERVICE_GAP_EXPIRY (R173). -/
def execServiceGapExpiry (s : State) : Result := onExpiry s s.service.gap fun s => s.endGap

/-- BAD_REQUEST (R174): a request of bad form, with its bytes. -/
def execBadRequest (bytes : List Byte) (s : State) : Result := serviceRequest bytes s

/-- The port after the last byte of a response (R175): an overrun is counted and leads to RESYNC. -/
def State.endResponse (s : State) : State :=
  let s := { s with service := { s.service with response := [] } }
  if s.service.overrun then
    { s with service := { s.service with overruns := bump s.service.overruns, overrun := false, state := .resync
                                         gap := s.after gapTime } }
  else { s with service := { s.service with state := .idle } }

/-- RESPONSE_SENT (R170, R175): the port looks at its overrun mark, and after RESTART the loader looks at the own set
state again and enters LOAD or abandons the restart. -/
def execResponseSent (s : State) : Result :=
  whileAwake s fun s =>
    if s.service.state = .responding then
      if s.loader.restartInProgress then
        if s.seq.state.restartable then s.enterLoad
        else { s with loader := { s.loader with restartInProgress := false } }.endResponse
      else s.endResponse
    else s

/-- STATUS (R174, R176). -/
def execStatus (s : State) : Result := serviceRequest (requestBytes 1 []) s

/-- PEER (R174, R176). -/
def execPeer (arg : Byte) (s : State) : Result := serviceRequest (requestBytes 2 [arg]) s

/-- LADDER (R145, R174). -/
def execLadder (s : State) : Result := serviceRequest (requestBytes 3 []) s

/-- CLAIMS (R161, R174). -/
def execClaims (s : State) : Result := serviceRequest (requestBytes 4 []) s

/-- GROUPS (R121, R174). -/
def execGroups (s : State) : Result := serviceRequest (requestBytes 5 []) s

/-- ALARMS (R174, R177). -/
def execAlarms (s : State) : Result := serviceRequest (requestBytes 6 []) s

/-- COUNTERS (R174, R180). -/
def execCounters (s : State) : Result := serviceRequest (requestBytes 7 []) s

/-- CLEAR_ALARMS (R174, R179). -/
def execClearAlarms (s : State) : Result := serviceRequest (requestBytes 8 []) s

/-- CLEAR_COUNTERS (R174, R180). -/
def execClearCounters (s : State) : Result := serviceRequest (requestBytes 9 []) s

/-- CLEAR_PHANTOM (R36, R174). -/
def execClearPhantom (arg : Byte) (s : State) : Result := serviceRequest (requestBytes 10 [arg]) s

/-- INHIBIT (R119, R174). -/
def execInhibit (arg : Byte) (s : State) : Result := serviceRequest (requestBytes 11 [arg]) s

/-- ENABLE (R120, R174). -/
def execEnable (arg : Byte) (s : State) : Result := serviceRequest (requestBytes 12 [arg]) s

/-- RESTART (R170, R174). -/
def execRestart (s : State) : Result := serviceRequest (requestBytes 13 []) s

end Sys2Proof.Machine
end

