-- ==== Sys2Proof/Machine/SetSeq.lean ====
section
/-! DEFINITION. The set sequencer's commands (Section 5): the edges of its four inputs, its three timers and the ends
of its pulses. -/

namespace Sys2Proof.Machine

/-- The own trip (R87): the set enters TRIPPED, the change goes out, and the own trip notice carries the own P as the
resolver held it before the change. -/
def State.trip (s : State) : State :=
  let n : TripNotice := { station := s.own, p := s.island.ownP, rating := s.conf.rating, tripSection := s.conf.ownSection }
  let s := { s with seq := { s.seq with unloadTimer := none, pendingUnload := false, unloadKind := .none } }
  ((s.setSetState .tripped).flush.resolve).takeTripNotice n

/-- The end of an opening (R94): STOP is issued, and the set goes to STANDBY or OFF by the level of AVAILABLE. -/
def State.completeOpening (s : State) : State :=
  let s := s.issueStop
  { s with seq := { s.seq with openingTimer := none, unloadKind := .none } }.setSetState
    (if s.pins.available then .standby else .off)

/-- A BREAKER closing edge by the own set state (R83, R85). -/
def State.breakerCloses (s : State) : State :=
  match s.seq.state with
  | .starting | .off | .standby | .tripped | .startFailed => s.closeOnBus
  | .loading | .sharing | .unloading | .opening => s

/-- A BREAKER opening edge by the own set state (R87, R94). -/
def State.breakerOpens (s : State) : State :=
  match s.seq.state with
  | .loading | .sharing | .unloading => s.trip
  | .opening => s.completeOpening
  | .off | .standby | .starting | .tripped | .startFailed => s

/-- An AVAILABLE rising edge by the own set state (R80). -/
def State.availableRises (s : State) : State :=
  match s.seq.state with
  | .off | .tripped => s.setSetState .standby
  | .standby | .starting | .loading | .sharing | .unloading | .opening | .startFailed => s

/-- An AVAILABLE falling edge by the own set state (R80). -/
def State.availableFalls (s : State) : State :=
  match s.seq.state with
  | .standby | .tripped | .startFailed => s.setSetState .off
  | .starting => s.leaveStarting .off
  | .off | .loading | .sharing | .unloading | .opening => s

/-- An UNLOAD rising edge by the own set state (R88). -/
def State.unloadRises (s : State) : State :=
  match s.seq.state with
  | .sharing => s.judgeUnload
  | .loading => { s with seq := { s.seq with pendingUnload := true } }
  | .unloading => { s with seq := { s.seq with unloadKind := .manual } }
  | .off | .standby | .starting | .opening | .tripped | .startFailed => s

/-- BREAKER_CLOSE_EDGE (R83, R85). Without a change of the level there is no edge, and in LOAD the level alone
changes (R75). -/
def execBreakerCloseEdge (s : State) : Result :=
  if s.pins.breaker then .next s
  else
    .next (let s := { s with pins := { s.pins with breaker := true } }
      if s.awake then s.breakerCloses.finish else s)

/-- BREAKER_OPEN_EDGE (R87, R94). -/
def execBreakerOpenEdge (s : State) : Result :=
  if s.pins.breaker then
    .next (let s := { s with pins := { s.pins with breaker := false } }
      if s.awake then s.breakerOpens.finish else s)
  else .next s

/-- RUNNING_EDGE (R82): in STARTING it asserts or releases CLOSE PERMIT. -/
def execRunningEdge (high : Bool) (s : State) : Result :=
  if s.pins.running = high then .next s
  else
    .next (let s := { s with pins := { s.pins with running := high } }
      if s.awake ∧ s.seq.state = .starting then { s with seq := { s.seq with closePermit := high } } else s)

/-- AVAILABLE_EDGE (R80). -/
def execAvailableEdge (high : Bool) (s : State) : Result :=
  if s.pins.available = high then .next s
  else
    .next (let s := { s with pins := { s.pins with available := high } }
      if s.awake then (if high then s.availableRises else s.availableFalls).finish else s)

/-- UNLOAD_EDGE (R75, R88): a rising edge is one request; a falling level is no edge. -/
def execUnloadEdge (high : Bool) (s : State) : Result :=
  if s.pins.unload = high then .next s
  else
    .next (let s := { s with pins := { s.pins with unload := high } }
      if s.awake ∧ high then s.unloadRises.finish else s)

/-- START_TIMER_EXPIRY (R84). -/
def execStartTimerExpiry (s : State) : Result :=
  onExpiry s (if s.seq.state = .starting then s.seq.startTimer else none) fun s => ((s.leaveStarting .startFailed).raise .startFail).finish

/-- UNLOAD_TIMER_EXPIRY (R92). -/
def execUnloadTimerExpiry (s : State) : Result :=
  onExpiry s (if s.seq.state = .unloading then s.seq.unloadTimer else none) fun s => (s.returnToSharing.raise .unloadFail).finish

/-- OPENING_TIMER_EXPIRY (R94). -/
def execOpeningTimerExpiry (s : State) : Result :=
  onExpiry s (if s.seq.state = .opening then s.seq.openingTimer else none) fun s => (s.returnToSharing.raise .openFail).finish

/-- The pulse timer of an output (R77). -/
def Sequencer.pulse (q : Sequencer) : SetPulse → Timer
  | .start => q.startPulse
  | .stop => q.stopPulse
  | .opening => q.openPulse

/-- The end of a pulse (R77): its output is released, and a STOP held back begins when START ends. -/
def State.endSetPulse (s : State) : SetPulse → State
  | .start =>
    if s.seq.stopHeld then
      { s with seq := { s.seq with startPulse := none, stopHeld := false, stopPulse := s.after enginePulse } }
    else { s with seq := { s.seq with startPulse := none } }
  | .stop => { s with seq := { s.seq with stopPulse := none } }
  | .opening => { s with seq := { s.seq with openPulse := none } }

/-- SET_PULSE_END (R77). -/
def execSetPulseEnd (which : SetPulse) (s : State) : Result :=
  onExpiry s (s.seq.pulse which) fun s => s.endSetPulse which

end Sys2Proof.Machine
end

