-- ==== Sys2Proof/Machine/ShedGroups.lean ====
section
/-! DEFINITION. The group channels' commands (Section 7): feedback edges, the confirmation window, the pulse ends and
the close spacing timer. -/

namespace Sys2Proof.Machine

/-- Where an edge of its feedback takes a group that is not INHIBITED (R113, R115, R117, R118); a dash of the tables
leaves the state. -/
def GroupState.onEdge (st : GroupState) (closing : Bool) : GroupState :=
  match st, closing with
  | .connected, false => .openExternal
  | .shedPending, false => .shed
  | .failed .shed, false => .shed
  | .failed .restore, false => .openExternal
  | .restorePending, true => .connected
  | .shed, true => .connected
  | .failed _, true => .connected
  | .openExternal, true => .connected
  | st, _ => st

/-- The latch marks after an edge in INHIBITED (R111). -/
def Channel.mark (c : Channel) (closing : Bool) : Channel :=
  if closing then { c with closingSeen := true } else { c with openingSeen := true }

/-- A feedback edge at a configured channel (R111): latched in INHIBITED, and otherwise taken at once, with both
marks cleared and a confirmed window stopped. -/
def State.takeEdge (s : State) (i : Fin 6) (closing : Bool) : State :=
  match (s.channel i).state with
  | none => s
  | some .inhibited => s.setChannel i ((s.channel i).mark closing)
  | some st =>
    let next := st.onEdge closing
    let s := s.setChannel i { s.channel i with openingSeen := false, closingSeen := false }
    if next = st then s
    else (s.setChannel i { s.channel i with window := none }).setGroupState i next

/-- FEEDBACK_EDGE (R111). Without a change of the level there is no edge, and in LOAD the level alone changes. -/
def execFeedbackEdge (i : Fin 6) (closed : Bool) (s : State) : Result :=
  if s.pins.feedback[i] = closed then .next s
  else
    .next (let s := { s with pins := { s.pins with feedback := s.pins.feedback.set i closed } }
      if s.awake then (s.takeEdge i closed).finish else s)

/-- The command a pending group failed to confirm (R113, R115). -/
def GroupState.pendingCommand : GroupState → Option GroupCommand
  | .shedPending => some .shed
  | .restorePending => some .restore
  | .connected | .shed | .failed _ | .openExternal | .inhibited => none

/-- CONFIRMATION_WINDOW_EXPIRY (R113, R115): a pending group enters FAILED, and GROUP_FAIL is reported. -/
def execConfirmationWindowExpiry (i : Fin 6) (s : State) : Result :=
  onExpiry s (s.channel i).window fun s =>
    let s := s.setChannel i { s.channel i with window := none }
    match (s.channel i).state.bind GroupState.pendingCommand with
    | none => s
    | some c => ((s.setGroupState i (.failed c)).raise .groupFail).finish

/-- The pulse timer of a group's output (R116). -/
def Channel.pulse (c : Channel) : GroupPulse → Timer
  | .trip => c.trip
  | .close => c.close

/-- The end of a pulse (R116): its output is released, and a TRIP held back begins when CLOSE ends. -/
def State.endGroupPulse (s : State) (i : Fin 6) : GroupPulse → State
  | .trip => s.setChannel i { s.channel i with trip := none }
  | .close =>
    let s := s.setChannel i { s.channel i with close := none }
    if (s.channel i).tripHeld then s.startTrip i else s

/-- GROUP_PULSE_END (R116). -/
def execGroupPulseEnd (i : Fin 6) (which : GroupPulse) (s : State) : Result :=
  onExpiry s ((s.channel i).pulse which) fun s => s.endGroupPulse i which

/-- CLOSE_SPACING_EXPIRY (R114): the timer stops. -/
def execCloseSpacingExpiry (s : State) : Result :=
  onExpiry s s.groups.closeSpacing fun s => { s with groups := { s.groups with closeSpacing := none } }

end Sys2Proof.Machine
end

