-- ==== Sys2Proof/Machine/Start.lean ====
section
/-! DEFINITION. The configuration loader's commands (Section 10): power, the end of LOAD and the end of LISTEN. -/

namespace Sys2Proof.Machine

/-- POWER_ON (R165): the card enters LOAD. -/
def execPowerOn (s : State) : Result := .next s.enterLoad

/-- LOSS_OF_POWER (R171): the card stops until the supply returns as a power-on. -/
def execLossOfPower (s : State) : Result := .next { s with powered := false }

/-- LOAD_READ_DONE (R166): all 27 words have been read; the card enters LISTEN. -/
def execLoadReadDone (straps : StrapPins) (image : List Word) (s : State) : Result :=
  .next (if s.powered ∧ s.mode = .load then s.enterListen straps image else s)

/-- LOAD_TIMEOUT (R163, R166): 50 ms have passed without all 27 words, so that the image is faulty; the card enters
LISTEN. -/
def execLoadTimeout (straps : StrapPins) (image : List Word) (s : State) : Result :=
  match s.loader.loadTimer with
  | none => .next s
  | some t =>
    .next (if s.powered ∧ s.mode = .load then (s.advanceTo t).enterListen straps (image.take 26) else s)

/-- LISTEN_TIMER_EXPIRY (R167): the card enters RUN. Whether a lane of which no command has shown the level since the
entry to LISTEN is idle then is a free value (R19, log entry 36); on a lane that is not, the first frame waits in DEFER
(R4). -/
def execListenTimerExpiry (s : State) : Result := onExpiry s s.loader.listenTimer fun s => s.seeLanes.enterRun

end Sys2Proof.Machine
end

