-- ==== Sys2Proof/Machine/Ties.lean ====
section
/-! DEFINITION. The island resolver's commands (Section 3): the tie inputs with their filters, and the return timer of
the sharing mode. -/

namespace Sys2Proof.Machine

/-- Sets the filter timer of a tie. -/
def State.setFilter (s : State) (tie : Fin 3) (t : Timer) : State :=
  { s with island := { s.island with tieFilters := s.island.tieFilters.set tie t } }

/-- The level of a tie input, as it stands at the card's terminals. -/
def State.setTiePin (s : State) (tie : Fin 3) (closed : Bool) : State :=
  { s with pins := { s.pins with ties := s.pins.ties.set tie closed } }

/-- TIE_INPUT_CHANGE (R39): a level that differs from the filtered state starts the tie's filter, and a return to the
filtered state stops it. In LOAD the inputs are not looked at. -/
def execTieInputChange (tie : Fin 3) (closed : Bool) (s : State) : Result :=
  if s.pins.ties[tie] = closed then .next s
  else
    .next (let s := s.setTiePin tie closed
      if s.awake then
        if closed = s.island.tieView.at tie then s.setFilter tie none else s.setFilter tie (s.after tieFilterTime)
      else s)

/-- TIE_FILTER_EXPIRY (R39, R40): the filtered state takes the level of the input, and the change spreads. -/
def execTieFilterExpiry (tie : Fin 3) (s : State) : Result :=
  onExpiry s s.island.tieFilters[tie] fun s =>
    let s := s.setFilter tie none
    { s with island := { s.island with tieView := s.island.tieView.set tie s.pins.ties[tie] } }.spread.finish

/-- RETURN_TIMER_EXPIRY (R50): with no cause active the sharing mode becomes ISOCH and DROOP is released. -/
def execReturnTimerExpiry (s : State) : Result :=
  onExpiry s s.island.returnTimer fun s =>
    { s with island := { s.island with mode := .isoch, returnTimer := none } }.settle

end Sys2Proof.Machine
end

