-- ==== Sys2Proof/Machine/Dispatch.lean ====
section
/-! DEFINITION. One command on a state: one arm for each constructor of `Instr`, each a call of its meaning. -/

namespace Sys2Proof.Machine

def exec (i : Instr) (s : State) : Host.Outcome State Fault Refusal :=
  match i with
  | .powerOn => Sys2Proof.Machine.execPowerOn s
  | .loadReadDone straps image => Sys2Proof.Machine.execLoadReadDone straps image s
  | .loadTimeout straps image => Sys2Proof.Machine.execLoadTimeout straps image s
  | .listenTimerExpiry => Sys2Proof.Machine.execListenTimerExpiry s
  | .receptionEnd lane rx => Sys2Proof.Machine.execReceptionEnd lane rx s
  | .sendStart lane => Sys2Proof.Machine.execSendStart lane s
  | .frameComplete lane => Sys2Proof.Machine.execFrameComplete lane s
  | .collision lane => Sys2Proof.Machine.execCollision lane s
  | .jamEnd lane => Sys2Proof.Machine.execJamEnd lane s
  | .backoffExpiry lane => Sys2Proof.Machine.execBackoffExpiry lane s
  | .stuckEntry lane beganInSend => Sys2Proof.Machine.execStuckEntry lane beganInSend s
  | .driverTestLaneIdle lane => Sys2Proof.Machine.execDriverTestLaneIdle lane s
  | .driverTestExpiry lane => Sys2Proof.Machine.execDriverTestExpiry lane s
  | .isolatedLaneIdle lane => Sys2Proof.Machine.execIsolatedLaneIdle lane s
  | .stuckEnd lane => Sys2Proof.Machine.execStuckEnd lane s
  | .errorWindowExpiry lane => Sys2Proof.Machine.execErrorWindowExpiry lane s
  | .silenceTimerExpiry lane => Sys2Proof.Machine.execSilenceTimerExpiry lane s
  | .frameTimerExpiry => Sys2Proof.Machine.execFrameTimerExpiry s
  | .spacingTimerExpiry => Sys2Proof.Machine.execSpacingTimerExpiry s
  | .intake => Sys2Proof.Machine.execIntake s
  | .entryTimer350 station => Sys2Proof.Machine.execEntryTimer350 station s
  | .entryTimer1000 station => Sys2Proof.Machine.execEntryTimer1000 station s
  | .lanesHeardExpiry station lane => Sys2Proof.Machine.execLanesHeardExpiry station lane s
  | .tieInputChange tie closed => Sys2Proof.Machine.execTieInputChange tie closed s
  | .tieFilterExpiry tie => Sys2Proof.Machine.execTieFilterExpiry tie s
  | .returnTimerExpiry => Sys2Proof.Machine.execReturnTimerExpiry s
  | .meteringIntervalExpiry m => Sys2Proof.Machine.execMeteringIntervalExpiry m s
  | .breakerCloseEdge => Sys2Proof.Machine.execBreakerCloseEdge s
  | .breakerOpenEdge => Sys2Proof.Machine.execBreakerOpenEdge s
  | .runningEdge high => Sys2Proof.Machine.execRunningEdge high s
  | .availableEdge high => Sys2Proof.Machine.execAvailableEdge high s
  | .unloadEdge high => Sys2Proof.Machine.execUnloadEdge high s
  | .startTimerExpiry => Sys2Proof.Machine.execStartTimerExpiry s
  | .unloadTimerExpiry => Sys2Proof.Machine.execUnloadTimerExpiry s
  | .openingTimerExpiry => Sys2Proof.Machine.execOpeningTimerExpiry s
  | .setPulseEnd which => Sys2Proof.Machine.execSetPulseEnd which s
  | .evaluation => Sys2Proof.Machine.execEvaluation s
  | .tripRecentTimerExpiry => Sys2Proof.Machine.execTripRecentTimerExpiry s
  | .feedbackEdge group closed => Sys2Proof.Machine.execFeedbackEdge group closed s
  | .confirmationWindowExpiry group => Sys2Proof.Machine.execConfirmationWindowExpiry group s
  | .groupPulseEnd group which => Sys2Proof.Machine.execGroupPulseEnd group which s
  | .closeSpacingExpiry => Sys2Proof.Machine.execCloseSpacingExpiry s
  | .handoffTimerExpiry => Sys2Proof.Machine.execHandoffTimerExpiry s
  | .restoreCheck => Sys2Proof.Machine.execRestoreCheck s
  | .actionAgeTick => Sys2Proof.Machine.execActionAgeTick s
  | .requestRising consumer => Sys2Proof.Machine.execRequestRising consumer s
  | .requestFalling consumer => Sys2Proof.Machine.execRequestFalling consumer s
  | .claimWindowExpiry consumer => Sys2Proof.Machine.execClaimWindowExpiry consumer s
  | .retestTimerExpiry => Sys2Proof.Machine.execRetestTimerExpiry s
  | .waitingTimerExpiry consumer => Sys2Proof.Machine.execWaitingTimerExpiry consumer s
  | .holdTimerExpiry consumer => Sys2Proof.Machine.execHoldTimerExpiry consumer s
  | .claimAgeTick consumer => Sys2Proof.Machine.execClaimAgeTick consumer s
  | .serviceGapExpiry => Sys2Proof.Machine.execServiceGapExpiry s
  | .badRequest bytes => Sys2Proof.Machine.execBadRequest bytes s
  | .responseSent => Sys2Proof.Machine.execResponseSent s
  | .status => Sys2Proof.Machine.execStatus s
  | .peer arg => Sys2Proof.Machine.execPeer arg s
  | .ladder => Sys2Proof.Machine.execLadder s
  | .claims => Sys2Proof.Machine.execClaims s
  | .groups => Sys2Proof.Machine.execGroups s
  | .alarms => Sys2Proof.Machine.execAlarms s
  | .counters => Sys2Proof.Machine.execCounters s
  | .clearAlarms => Sys2Proof.Machine.execClearAlarms s
  | .clearCounters => Sys2Proof.Machine.execClearCounters s
  | .clearPhantom arg => Sys2Proof.Machine.execClearPhantom arg s
  | .inhibit arg => Sys2Proof.Machine.execInhibit arg s
  | .enable arg => Sys2Proof.Machine.execEnable arg s
  | .restart => Sys2Proof.Machine.execRestart s
  | .serviceByteReceived byte => Sys2Proof.Machine.execServiceByteReceived byte s
  | .receptionBegins lane => Sys2Proof.Machine.execReceptionBegins lane s
  | .lossOfPower => Sys2Proof.Machine.execLossOfPower s

end Sys2Proof.Machine
end

