-- ==== Sys2Proof/Machine/Step.lean ====
section
/-! DEFINITION. One step of the card: the command at the front of the queue is taken, and while none waits time
passes. -/

namespace Sys2Proof.Machine

/-- One step: the front command on the state with the queue's rest; an empty queue lets time pass (log entry 3). -/
def step (s : State) : Host.Outcome State Fault Refusal :=
  match s.pending with
  | [] => .next s.idle
  | c :: rest => exec c { s with pending := rest }

/-- The state with the command that a word spells put at the front of the queue; no word spells one. -/
def State.withFetchWord (s : State) (nbits w : Nat) : State :=
  match decodeTableWord nbits w with
  | none => s
  | some c => { s with pending := c :: s.pending }

end Sys2Proof.Machine
end

