-- ==== Sys2Proof/Safety.lean ====
section
/-! DEFINITION. The terms in which claims about the card are made: which blocks a command leaves as they were, and
what every state of a safe run satisfies. -/

namespace Sys2Proof.Machine

/-! ### What a command leaves unchanged -/

/-- The blocks of the card and the rest of its state, one name for each part of `State`. -/
inductive Block where
  | clock | supply | pins | laneA | laneB | linkOk | composer | rx | peers | island | metering | regulator | seq | duty
  | groups | ladder | admission | loader | service | alarms | queue
  deriving DecidableEq, Repr

/-- A block stands in `t` as it stood in `s`. -/
def Block.same (b : Block) (s t : State) : Prop :=
  match b with
  | .clock => t.now = s.now
  | .supply => t.powered = s.powered
  | .pins => t.pins = s.pins
  | .laneA => t.laneA = s.laneA
  | .laneB => t.laneB = s.laneB
  | .linkOk => t.linkOk = s.linkOk
  | .composer => t.composer = s.composer
  | .rx => t.rx = s.rx
  | .peers => t.peers = s.peers
  | .island => t.island = s.island
  | .metering => t.metering = s.metering
  | .regulator => t.regulator = s.regulator
  | .seq => t.seq = s.seq
  | .duty => t.duty = s.duty
  | .groups => t.groups = s.groups
  | .ladder => t.ladder = s.ladder
  | .admission => t.admission = s.admission
  | .loader => t.loader = s.loader
  | .service => t.service = s.service
  | .alarms => t.alarms = s.alarms
  | .queue => t.pending = s.pending

/-- Every block but the named ones stands in `t` as it stood in `s`. -/
def State.keepsBut (s t : State) (bs : List Block) : Prop := ∀ b, b ∉ bs → b.same s t

/-- The blocks that the end of an event may bring up to date: a composition goes to the composer and both lanes, and
the island, the ladder's entries, LINK_OK and the alarm latches follow from the rest (R16, R48, R127, R177). -/
def followers : List Block := [.laneA, .laneB, .composer, .island, .ladder, .linkOk, .alarms]

/-- A latch that stands set in `s` stands set in `t` (R177). -/
def State.keepsLatches (s t : State) : Prop := ∀ k, k ∈ s.alarms.latched → k ∈ t.alarms.latched

/-! ### The composer at the end of an event -/

/-- A transmitter `l` that is handed the frame `f` at an instant stands as `m` (R3, R4). -/
def LaneIf.Took (l m : LaneIf) (now : Nat) (f : Frame) : Prop :=
  match l.tx with
  | .idle => m = if l.isIdle now = true ∧ l.stuck = false then
        { l with pendingFrame := some f, attempts := 0, tx := .send, byteCounter := 0, sendStart := some now
                 quietFrom := .notIdle, receiving := true }
      else { l with pendingFrame := some f, attempts := 0, tx := .defer }
  | .defer | .backoff | .isolated =>
    m = { l with pendingFrame := some f, attempts := 0, replaced := min 65535 (l.replaced + 1) }
  | .send =>
    m = { l with nextFrame := some f
                 replaced := if l.nextFrame = none then l.replaced else min 65535 (l.replaced + 1) }
  | .disabled => m = l

/-- Between `s` and `t` the card has made one composition of a kind (R16 to R18). The frame is the one composed from `s`
with its island up to date, and both lanes have been handed it (R3). The frame number advances, the spacing timer starts,
the arrival mark clears, the values sent are kept, and the composition is judged fresh or stale. The waiting request of
`t` is left open here. -/
def State.Composed (s t : State) (k : FrameKind) : Prop :=
  let f := s.resolve.composedFrame k
  let c := s.composer
  (∀ l, (s.lane l).Took (t.lane l) s.now f)
    ∧ t.composer = { c with
        nextNumber := if c.nextNumber = 255 then 1 else c.nextNumber + 1
        spacing := some (s.now + 10000), waiting := t.composer.waiting, arrival := false
        lastP := f.content.p, lastQ := f.content.q, lastFrequency := f.content.frequency
        staleCount := if c.arrival = true then 0 else min 255 (c.staleCount + 1)
        freshCount := if c.arrival = true then c.freshCount else 0
        meterFail := if c.arrival = true then c.meterFail && c.freshCount != 2
          else c.meterFail || decide (2 ≤ c.staleCount) }

/-- Between `s` and `t` the composer has dealt with what it was asked for, `w` (R16): with the spacing timer stopped it
has composed that at once; with the timer running it holds it, and neither lane has been handed a frame. -/
def State.DealtWith (s t : State) (w : Option FrameKind) : Prop :=
  match w, s.composer.spacing with
  | some k, none => s.Composed t k ∧ t.composer.waiting = none
  | _, _ => t.laneA = s.laneA ∧ t.laneB = s.laneB ∧ t.composer = { s.composer with waiting := w }

/-- Between `s` and `t` the own set state, the state of an own group, or that of an own claim which is listed before or
after the change, has changed: what makes an urgent request (R15). -/
def State.Urges (s t : State) : Prop :=
  t.seq.state ≠ s.seq.state
    ∨ (∃ i, (t.channel i).state ≠ (s.channel i).state)
    ∨ ∃ n, (t.claim n).state ≠ (s.claim n).state
        ∧ ((s.claim n).state.listed ≠ none ∨ (t.claim n).state.listed ≠ none)

/-! ### The end of an event -/

/-- What follows from the rest of the card stands as the rest gives it: the island (R48), the ladder's entries (R127),
LINK_OK (R14), the latch of every active alarm kind (R177) and the relay (R178). -/
def State.Settled (s : State) : Prop :=
  s.resolve = s ∧ s.ladder.entries = s.ladderOf
    ∧ s.linkOk = linkOkOf s.conf.select s.laneA.health s.laneB.health
    ∧ (∀ k, s.active k = true → k ∈ s.alarms.latched) ∧ (s.alarms.relay = true ↔ s.alarms.latched = [])

/-- The sharing mode and the return timer of `t` are what the resolver makes of `b` (R50). Where the composition at the
event's end has changed METER_FAIL, the mode is DROOP, and the timer is stopped or has started from 0 there. -/
def State.Shared (b t : State) : Prop :=
  (t.composer.meterFail = b.composer.meterFail →
      t.island.mode = b.resolve.island.mode ∧ t.island.returnTimer = b.resolve.island.returnTimer)
    ∧ (t.composer.meterFail ≠ b.composer.meterFail →
        t.island.mode = .droop ∧ (t.island.returnTimer = none ∨ t.island.returnTimer = some (b.now + 2000000)))

/-- `t` stands as `b` does, but for what the end of an event brings up to date: of the ladder the entries alone have been
rewritten, the tie view and the tie filters stand, the sharing mode follows from its causes, no latch has cleared, and
everything is settled. -/
def State.Settles (b t : State) : Prop :=
  b.keepsBut t followers ∧ b.keepsLatches t ∧ t.Settled
    ∧ t.ladder = { b.ladder with entries := t.ladder.entries }
    ∧ t.island.tieView = b.island.tieView ∧ t.island.tieFilters = b.island.tieFilters ∧ b.Shared t

/-- An event that found the card as `s` has left it as `b`, and its end has made `t` of that: everything is settled, and
the composer has dealt with what was asked of it (R15, R16). In RUN a change that is reported at once has made an urgent
request. Where there is none, and in every other mode, the composer has been asked for no more than `b` holds. -/
def State.Followed (s b t : State) : Prop :=
  b.Settles t
    ∧ (b.loader.mode = .run → s.Urges t → b.DealtWith t (some .urgent))
    ∧ (b.loader.mode ≠ .run ∨ ¬ s.Urges t → b.DealtWith t b.composer.waiting)

/-! ### The card modes -/

/-- The card has its supply and is past LOAD, so that its events act on it (R165, R171). -/
def State.Awake (s : State) : Prop := s.powered = true ∧ s.loader.mode ≠ .load

/-- An EMPTY entry holds nothing but its two counters (R24). -/
def PeerEntry.Blank (e : PeerEntry) : Prop :=
  e.lastNumber = none ∧ e.lastTime = none ∧ e.record = none ∧ e.previousSetState = none ∧ e.qualifyCount = 0
    ∧ e.timerFrom = none ∧ e.heardA = none ∧ e.heardB = none

/-- A lane interface as R19 lists it for the entry to LOAD. -/
def LaneIf.AtLoad (l : LaneIf) : Prop :=
  l.tx = .idle ∧ l.pendingFrame = none ∧ l.nextFrame = none ∧ l.byteCounter = 0 ∧ l.attempts = 0
    ∧ l.jam = none ∧ l.backoff = none ∧ l.test = none ∧ l.receiving = false
    ∧ l.stuck = false ∧ l.silent = false ∧ l.degraded = false ∧ l.health = .ok
    ∧ l.errorCount = 0 ∧ l.errorWindow = none ∧ l.silence = none
    ∧ l.goodFrames = 0 ∧ l.checkErrors = 0 ∧ l.collisions = 0 ∧ l.collisionDrops = 0 ∧ l.replaced = 0

/-- The card on entering LOAD, block by block as each section lists it (R165 with R19, R20, R23, R38, R52, R56, R58,
R78, R96, R123, R144, R160, R175 and R177). -/
def State.AtLoad (s : State) : Prop :=
  (s.loader.mode = .load ∧ s.loader.config = none ∧ s.loader.listenTimer = none
    ∧ s.loader.restartInProgress = false ∧ s.loader.loadTimer = some (s.now + 50000))
  ∧ (s.laneA.AtLoad ∧ s.laneB.AtLoad ∧ s.linkOk = true)
  ∧ (s.composer.frameTimer = none ∧ s.composer.spacing = none ∧ s.composer.waiting = none
    ∧ s.composer.nextNumber = 1 ∧ s.composer.lastP = 0 ∧ s.composer.lastQ = 0 ∧ s.composer.lastFrequency = 0
    ∧ s.composer.arrival = false ∧ s.composer.freshCount = 0 ∧ s.composer.staleCount = 0
    ∧ s.composer.meterFail = false)
  ∧ (s.rx.frames = [] ∧ s.rx.overruns = 0 ∧ s.peers.lateFrames = 0 ∧ s.peers.dualCopies = 0
    ∧ ∀ i, (s.entry i).state = .empty ∧ (s.entry i).Blank ∧ (s.entry i).lateFrames = 0 ∧ (s.entry i).dualCopies = 0)
  ∧ (s.island.tieView = { tie1 := false, tie2 := false, tie3 := false } ∧ (∀ i : Fin 3, s.island.tieFilters[i] = none)
    ∧ s.island.sections = [] ∧ s.island.members = [] ∧ s.island.pLoad = 0 ∧ s.island.rCap = 0 ∧ s.island.qrCap = 0
    ∧ s.island.online = 0 ∧ s.island.pPool = 0 ∧ s.island.rPool = 0 ∧ s.island.qPool = 0 ∧ s.island.qrPool = 0
    ∧ s.island.frequency = 0 ∧ s.island.tieDisagree = false ∧ s.island.mode = .droop
    ∧ s.island.returnTimer = none ∧ s.island.droopOut = true)
  ∧ (s.metering.interval = none ∧ s.metering.latest = none ∧ s.metering.warmUp = 4)
  ∧ (s.regulator.speedBias = 0 ∧ s.regulator.voltBias = 0 ∧ s.regulator.rampTarget = none)
  ∧ (s.seq.state = .off ∧ s.seq.startTimer = none ∧ s.seq.unloadTimer = none ∧ s.seq.openingTimer = none
    ∧ s.seq.pendingUnload = false ∧ s.seq.unloadKind = .none ∧ s.seq.startPulse = none ∧ s.seq.stopPulse = none
    ∧ s.seq.openPulse = none ∧ s.seq.stopHeld = false ∧ s.seq.closePermit = false)
  ∧ (s.duty.evaluation = none ∧ s.duty.startNeed = 0 ∧ s.duty.stopCounter = 0 ∧ s.duty.tripRecent = none
    ∧ s.duty.n1 = false ∧ s.duty.n2 = false ∧ s.duty.n3 = false ∧ s.duty.n4 = false ∧ s.duty.startOrder = [])
  ∧ (s.groups.closeSpacing = none
    ∧ ∀ i, (s.channel i).state = none ∧ (s.channel i).trip = none ∧ (s.channel i).close = none
      ∧ (s.channel i).tripHeld = false ∧ (s.channel i).window = none ∧ (s.channel i).openingSeen = false
      ∧ (s.channel i).closingSeen = false)
  ∧ (s.ladder.entries = [] ∧ s.ladder.skip = [] ∧ s.ladder.stageA = 0 ∧ s.ladder.stageB = 0 ∧ s.ladder.stageF = 0
    ∧ s.ladder.inFlight = none ∧ s.ladder.handOff = none ∧ s.ladder.held = false ∧ s.ladder.restoreTimer = none
    ∧ s.ladder.actionAge = 0 ∧ s.ladder.ageTimer = none ∧ s.ladder.islandAge = 0 ∧ s.ladder.failedGuards = []
    ∧ s.ladder.candidate = none)
  ∧ (s.admission.retest = none ∧ s.admission.headroom = 0 ∧ s.admission.found = []
    ∧ ∀ n, (s.claim n).state = .idle ∧ (s.claim n).grant = false ∧ (s.claim n).age = 0 ∧ (s.claim n).ageTimer = none
      ∧ (s.claim n).window = none ∧ (s.claim n).waiting = none ∧ (s.claim n).hold = none
      ∧ (s.claim n).outOfTime = false)
  ∧ (s.service.state = .resync ∧ s.service.bytes = [] ∧ s.service.gap = none ∧ s.service.badLength = false
    ∧ s.service.overrun = false ∧ s.service.overruns = 0)
  ∧ (s.alarms.latched = [] ∧ s.alarms.relay = false)

/-- The card `t` has entered LISTEN from LOAD, with the straps and the image read there (R166 with R19, R39, R40, R53,
R79, R114, R124, R130, R164, R175 and R178). -/
def State.AtListen (t : State) (straps : StrapPins) (image : List Word) : Prop :=
  (t.loader.mode = .listen ∧ t.loader.listenTimer = some (t.now + 1000000) ∧ t.loader.loadTimer = none
    ∧ t.loader.straps = straps ∧ t.loader.image = image ∧ t.loader.firstFault = firstFaultOf image
    ∧ t.loader.config = some (formConfiguration straps image))
  ∧ (∀ l, (t.lane l).quietFrom = .unseen (t.now + 80) ∧ (t.lane l).errorWindow = some (t.now + 1000000)
    ∧ (t.lane l).silence = some (t.now + 500000))
  ∧ (t.island.tieView = { tie1 := t.pins.ties[0], tie2 := t.pins.ties[1], tie3 := t.pins.ties[2] }
    ∧ t.island.sections = islandSections t.conf.ownSection t.island.tieView ∧ t.own ∈ t.island.members
    ∧ t.island.mode = .droop ∧ t.island.droopOut = true)
  ∧ t.metering.interval = some (t.now + 50000)
  ∧ t.seq.state = (if t.pins.breaker then .loading else if t.pins.available then .standby else .off)
  ∧ t.groups.closeSpacing = some (t.now + 10000000)
  ∧ (∀ i g, t.groupRecord i = some g →
      (t.channel i).state = some (if g.sheddable = false then .inhibited
        else if t.pins.feedback[i] then .connected else .openExternal))
  ∧ t.ladder.actionAge = 0 ∧ t.ladder.ageTimer = some (t.now + 100000) ∧ t.ladder.entries = t.ladderOf
  ∧ t.service.gap = some (t.now + 20000)
  ∧ (t.alarms.relay = true ↔ t.alarms.latched = [])
  ∧ (firstFaultOf image ≠ 0 → .config ∈ t.alarms.latched)

/-! ### Records, slow steps and block sheds -/

/-- A metering interval whose record is delivered: past warm-up, with its self-check passed (R54, R56). -/
def State.Delivers (s : State) (m : Measurement) (d : Nat) : Prop :=
  s.Awake ∧ s.metering.interval = some d ∧ m.referenceHeld = true ∧ m.channelsDone = true ∧ s.metering.warmUp = 0

/-- The record formed at the expiry at `d`, and the island's quantities once the resolver has taken it (R55, R57). -/
def State.foundBy (s : State) (m : Measurement) (d : Nat) : Island :=
  ((s.advanceTo d).receiveRecord (formRecord m s.conf.vNom)).island

/-- From `s` to `t` a slow step has worked on the first eligible entry (R134): an own group is commanded to shed, with
the own action age at 0 (R112, R116, R143); a peer's group is in flight for 1,000 ms; and where there is no eligible
entry SHED_EXHAUSTED is reported. -/
def State.SlowStep (s t : State) (first : Option LadderEntry) : Prop :=
  match first with
  | none => .shedExhausted ∈ t.alarms.latched ∧ t.groups = s.groups ∧ t.ladder.inFlight = none
  | some e =>
    if e.owner = .own then
      t.ladder.inFlight = none ∧ t.ladder.actionAge = 0 ∧ t.ladder.ageTimer = some (t.now + 100000)
        ∧ (∀ j, j ≠ e.index → t.channel j = s.channel j)
        ∧ ((s.channel e.index).state ≠ some .connected → t.groups = s.groups)
        ∧ ((s.channel e.index).state = some .connected → (s.channel e.index).close = none →
            t.channel e.index = { s.channel e.index with
              state := some .shedPending, window := some (t.now + 500000), trip := some (t.now + 200000)
              tripHeld := false }
            ∧ t.groups.closeSpacing = some (t.now + 10000000))
        ∧ ((s.channel e.index).state = some .connected → (s.channel e.index).close ≠ none →
            t.channel e.index = { s.channel e.index with
              state := some .shedPending, window := some (t.now + 500000), tripHeld := true }
            ∧ t.groups.closeSpacing = s.groups.closeSpacing)
    else
      t.groups = s.groups ∧ t.ladder.inFlight = some e.key ∧ t.ladder.handOff = some (t.now + 1000000)
        ∧ t.ladder.actionAge = s.ladder.actionAge

/-- From `s` to `t` the ladder has taken up a change among the peers or the ties that left the card as `b` (R127, R128,
R133, R135). A key leaves the skip set when its entry's state changed or its entry left. A step in flight goes on while
its entry is CONNECTED, and ends otherwise; at its end a held request begins a new slow step on the first eligible
entry. -/
def State.LadderSpread (s b t : State) : Prop :=
  let after := b.resolve.ladderOf
  let skip := s.ladder.skip.filter
    (fun k => (stateAt after k).isSome && stateAt after k == stateAt s.ladder.entries k)
  let first := after.find? (fun e => decide (e.state = .connected ∧ e.key ∉ skip))
  t.ladder.skip = skip
    ∧ (s.ladder.inFlight = none →
        t.ladder.inFlight = none ∧ t.ladder.held = s.ladder.held ∧ t.groups = s.groups)
    ∧ (∀ k, s.ladder.inFlight = some k → stateAt after k = some .connected →
        t.ladder.inFlight = some k ∧ t.ladder.handOff = s.ladder.handOff ∧ t.ladder.held = s.ladder.held
          ∧ t.groups = s.groups)
    ∧ (∀ k, s.ladder.inFlight = some k → stateAt after k ≠ some .connected → s.ladder.held = false →
        t.ladder.inFlight = none ∧ t.ladder.handOff = none ∧ t.ladder.held = false ∧ t.groups = s.groups)
    ∧ (∀ k, s.ladder.inFlight = some k → stateAt after k ≠ some .connected → s.ladder.held = true →
        t.ladder.held = false ∧ b.SlowStep t first)

/-- From `u` to `t` the card has dealt with the trip notice of a station whose last online P was `p` (R138 to R140). The
deficit leaves the tripped station's present contribution out of both sums. Where it is above 0, every CONNECTED own
group that the walk chooses is SHED_PENDING, and no other group has moved; nothing is shed where it is not. -/
def State.BlockShed (u t : State) (i : Station) (p : Int) : Prop :=
  let others := (u.contributions u.island.members u.island.mode).filter (fun c => decide (c.station ≠ i))
  let d := loadOf others + p - u.ladder.relief - capacityOf others
  let chosen := (walk u.ladder d u.ladder.entries).filter (fun e => decide (e.owner = .own))
  (d ≤ 0 → t.groups = u.groups ∧ t.ladder.actionAge = u.ladder.actionAge)
    ∧ (0 < d → chosen = [] → t.ladder.actionAge = u.ladder.actionAge)
    ∧ (0 < d → ∀ e ∈ chosen, t.ladder.actionAge = 0
        ∧ ((u.channel e.index).state = some .connected → (t.channel e.index).state = some .shedPending
          ∧ (t.channel e.index).window = some (u.now + 500000)
          ∧ ((u.channel e.index).close = none → (t.channel e.index).trip = some (u.now + 200000))
          ∧ ((u.channel e.index).close ≠ none → (t.channel e.index).tripHeld = true)))
    ∧ (0 < d → ∀ j, (∀ e ∈ chosen, e.index ≠ j) → t.channel j = u.channel j)
    ∧ (0 < d → chosenSum (walk u.ladder d u.ladder.entries) < d → .shedExhausted ∈ t.alarms.latched)

/-! ### What a safe run holds -/

/-- The biases stay within ±10,000, and are 0 while the card is not in RUN or the set is not online (R59, R72, R73); the
analog outputs run from −3 V to +3 V (R74). -/
def State.BiasesSafe (s : State) : Prop :=
  (-10000 ≤ s.regulator.speedBias ∧ s.regulator.speedBias ≤ 10000)
    ∧ (-10000 ≤ s.regulator.voltBias ∧ s.regulator.voltBias ≤ 10000)
    ∧ (s.loader.mode ≠ .run ∨ s.seq.state.online = false →
        s.regulator.speedBias = 0 ∧ s.regulator.voltBias = 0)
    ∧ (-3 ≤ s.speedBiasOutput ∧ s.speedBiasOutput ≤ 3) ∧ (-3 ≤ s.voltBiasOutput ∧ s.voltBiasOutput ≤ 3)

/-- START and STOP are never active together (R77); outside RUN the set is in none of the states that only RUN
reaches and no evaluation is made (R79, R95); and with supply CLOSE PERMIT is asserted exactly in STARTING with
RUNNING high (R82). -/
def State.EngineSafe (s : State) : Prop :=
  (s.seq.startPulse.isSome → s.seq.stopPulse = none)
    ∧ (s.loader.mode ≠ .run → s.seq.state ∈ [SetState.off, .standby, .loading, .tripped] ∧ s.duty.evaluation = none)
    ∧ (s.powered → s.seq.closePermit = (decide (s.seq.state = .starting) && s.pins.running))

/-- No group's TRIP and CLOSE outputs are active at the same time (R116). A TRIP pulse lies within 200 ms of now, and
while one runs the close spacing timer has at least 9,800 ms more to run (R114). -/
def State.PulsesSafe (s : State) : Prop :=
  ∀ i a, (s.channel i).trip = some a →
    a ≤ s.now + 200000
      ∧ (a ≤ s.now ∨ ∃ c, s.groups.closeSpacing = some c ∧ a + 9800000 ≤ c)
      ∧ ∀ b, (s.channel i).close = some b → a ≤ s.now

/-- GRANT is closed exactly while its claim is GRANTED or CONSUMING (R158). -/
def State.GrantsSafe (s : State) : Prop :=
  ∀ n, (s.claim n).grant = true ↔ (s.claim n).state = .granted ∨ (s.claim n).state = .consuming

/-- The out-of-time mark is set only while its claim is in its window (R153). -/
def State.MarksSafe (s : State) : Prop := ∀ n, (s.claim n).outOfTime = true → (s.claim n).state = .claiming

/-- The receive queue holds at most 8 frames, each a good frame of a peer (R8, R9, R21), and none in LOAD (R23); the
own entry is EMPTY, and in LOAD every entry is (R24, R38); an EMPTY entry is blank, and a record is the content of a
good frame (R24, R27). -/
def State.TableSafe (s : State) : Prop :=
  s.rx.frames.length ≤ 8
    ∧ (∀ x ∈ s.rx.frames, x.2.Good ∧ x.2.station ≠ s.own)
    ∧ (s.loader.mode = .load → s.rx.frames = [])
    ∧ (∀ i, i = s.own ∨ s.loader.mode = .load → (s.entry i).state = .empty)
    ∧ (∀ i, (s.entry i).state = .empty → (s.entry i).Blank)
    ∧ (∀ i r, (s.entry i).record = some r → r.Good)

/-- `a` stands before `b` on the ladder: by rank, then station identity, then group index (R126). -/
def LadderEntry.Before (a b : LadderEntry) : Prop :=
  a.rank < b.rank ∨ (a.rank = b.rank ∧ (a.station < b.station ∨ (a.station = b.station ∧ a.index < b.index)))

/-- The shed ladder never holds more than 48 entries, never two of one key, and is always sorted (R126). The sources
it is drawn from hold no index twice (R8, R163) and no member twice (R41). -/
def State.LadderSafe (s : State) : Prop :=
  s.ladder.entries.length ≤ 48
    ∧ (s.ladder.entries.map LadderEntry.key).Nodup
    ∧ s.ladder.entries.Pairwise LadderEntry.Before
    ∧ (s.conf.groups.map (·.index)).Nodup
    ∧ (∀ i r, (s.entry i).record = some r → (r.groups.map (·.index)).Nodup)
    ∧ (∀ x ∈ s.rx.frames, (x.2.content.groups.map (·.index)).Nodup)
    ∧ s.island.members.Nodup

/-- Past LOAD the ladder holds what the own groups, the peer table and the members give (R126, R127). -/
def State.LadderCurrent (s : State) : Prop := s.loader.mode ≠ .load → s.ladder.entries = s.ladderOf

/-- The relay follows the latches and is de-energised in LOAD, where no latch is set (R177, R178); past LOAD, LINK_OK
is as R14 forms it, and the latch of every active kind is set (R177). -/
def State.AlarmsSafe (s : State) : Prop :=
  (s.loader.mode = .load → s.alarms.latched = [] ∧ s.alarms.relay = false)
    ∧ (s.loader.mode ≠ .load →
        (s.alarms.relay = true ↔ s.alarms.latched = [])
          ∧ s.linkOk = linkOkOf s.conf.select s.laneA.health s.laneB.health
          ∧ ∀ k, s.active k = true → k ∈ s.alarms.latched)

/-- The DROOP output follows the sharing mode (R51), ISOCH is reached in RUN alone (R49), and past LOAD the sections,
the members, TIE_DISAGREE, the sharing mode and the island quantities are what a fresh recomputation gives (R48). -/
def State.IslandSafe (s : State) : Prop :=
  s.island.droopOut = decide (s.island.mode = SharingMode.droop)
    ∧ (s.island.mode = .isoch → s.loader.mode = .run)
    ∧ (s.loader.mode ≠ .load → s.resolve = s)

/-- The counters of R180, those of the entries (R37), and the counts and ages of R12, R99, R106, R130 and R147 keep
their limits. -/
def State.CountsSafe (s : State) : Prop :=
  (∀ n ∈ s.counters, n ≤ 65535)
    ∧ (∀ i, (s.entry i).lateFrames ≤ 65535 ∧ (s.entry i).dualCopies ≤ 65535)
    ∧ s.laneA.errorCount ≤ 255 ∧ s.laneB.errorCount ≤ 255
    ∧ s.duty.startNeed ≤ 200 ∧ s.duty.stopCounter ≤ 3000
    ∧ s.ladder.actionAge ≤ 255 ∧ ∀ n, (s.claim n).age ≤ 255

/-- What a composition draws on keeps the ranges of the frame (R2): past LOAD the configuration in use is the one formed
from the straps and the image as last read (R164), the next frame number is 1 to 255 (R17), and the values last sent and
those of the latest record lie within their ranges (R18, R55). -/
def State.ComposerSafe (s : State) : Prop :=
  let ranges (p q : Int) (f : Nat) : Prop :=
    (-32000 ≤ p ∧ p ≤ 32000) ∧ (-32000 ≤ q ∧ q ≤ 32000) ∧ (f = 0 ∨ (40000 ≤ f ∧ f ≤ 65535))
  (s.loader.mode ≠ .load → s.loader.config = some (formConfiguration s.loader.straps s.loader.image))
    ∧ (1 ≤ s.composer.nextNumber ∧ s.composer.nextNumber ≤ 255)
    ∧ ranges s.composer.lastP s.composer.lastQ s.composer.lastFrequency
    ∧ ∀ r, s.metering.latest = some r → ranges r.p r.q r.frequency

/-- In LOAD no configuration is in use (R164). A channel without a group record holds no group state and drives no
pulse (R110); past LOAD every channel with one holds a group state (R124); and a group's confirmation window runs exactly while a command to it is pending (R112 to R115). -/
def State.ChannelsSafe (s : State) : Prop :=
  (s.loader.mode = .load → s.loader.config = none) ∧ ∀ i,
    (s.groupRecord i = none →
      (s.channel i).state = none ∧ (s.channel i).trip = none ∧ (s.channel i).close = none
        ∧ (s.channel i).tripHeld = false)
    ∧ (s.loader.mode ≠ .load → s.groupRecord i ≠ none → (s.channel i).state ≠ none)
    ∧ ((s.channel i).window.isSome ↔
        (s.channel i).state = some .shedPending ∨ (s.channel i).state = some .restorePending)

end Sys2Proof.Machine
end

