-- ==== Sys2Proof/WellFormed.lean ====
section
/-! DEFINITION. The commands whose operands are ones their event can bring. The meanings are total: a command that is
not well-formed has an effect too, but no event of the card is that command. -/

namespace Sys2Proof

/-- Whether the operands of a command are ones its event can bring: LOAD ends with all 27 words of the image, or at
50 ms with fewer (R163, R166); and the bytes of BAD_REQUEST are a whole request, of the length its length byte gives,
whose form is bad (R172 to R174). -/
def Instr.wellFormed : Instr → Bool
  | .loadReadDone _ image => image.length == 27
  | .loadTimeout _ image => decide (image.length < 27)
  | .badRequest bytes =>
    (bytes.length == 4 || bytes.length == 5) && bytes.getD 0 0 == 0x6D#8
      && (bytes.getD 1 0).toNat == bytes.length && !Machine.requestFormGood bytes
  | .powerOn | .listenTimerExpiry | .receptionEnd _ _ | .sendStart _ | .frameComplete _ | .collision _ | .jamEnd _
  | .backoffExpiry _ | .stuckEntry _ _ | .driverTestLaneIdle _ | .driverTestExpiry _ | .isolatedLaneIdle _
  | .stuckEnd _ | .errorWindowExpiry _ | .silenceTimerExpiry _ | .frameTimerExpiry | .spacingTimerExpiry | .intake
  | .entryTimer350 _ | .entryTimer1000 _ | .lanesHeardExpiry _ _ | .tieInputChange _ _ | .tieFilterExpiry _
  | .returnTimerExpiry | .meteringIntervalExpiry _ | .breakerCloseEdge | .breakerOpenEdge | .runningEdge _
  | .availableEdge _ | .unloadEdge _ | .startTimerExpiry | .unloadTimerExpiry | .openingTimerExpiry | .setPulseEnd _
  | .evaluation | .tripRecentTimerExpiry | .feedbackEdge _ _ | .confirmationWindowExpiry _ | .groupPulseEnd _ _
  | .closeSpacingExpiry | .handoffTimerExpiry | .restoreCheck | .actionAgeTick | .requestRising _
  | .requestFalling _ | .claimWindowExpiry _ | .retestTimerExpiry | .waitingTimerExpiry _ | .holdTimerExpiry _
  | .claimAgeTick _ | .serviceGapExpiry | .responseSent | .status | .peer _ | .ladder | .claims | .groups | .alarms
  | .counters | .clearAlarms | .clearCounters | .clearPhantom _ | .inhibit _ | .enable _ | .restart
  | .serviceByteReceived _ | .receptionBegins _ | .lossOfPower => true

end Sys2Proof
end

