-- ==== Sys2Proof/Certificates/Slice0/Obligations.lean ====
section
/-! DEFINITION. The statements for the provers. Each command has a statement that says where it completes and what it
does; then come the statements about every command, and what every step keeps. Throughout, an expiry moves the model's
clock on to its deadline, and no further back: `advanceTo` is the model's choice (log entry 3), and no rule is cited
for it. Where a statement says `Followed`, the end of the event has also settled the card, and in RUN a change of the own
set state, of a group's state or of a listed claim's state has made an urgent request, which is composed at once with the
spacing timer stopped and held with it running; without such a change there is no request. That one composition is made
at the end of the event (log entry 7), and that its DROOP flag is from before it judges METER_FAIL (log entry 33), are the
model's readings. -/

open Sys2Proof Sys2Proof.Machine

/-! ### The step and the card modes -/

/-- A step takes the command at the front of the queue and runs it on the queue's rest. -/
def Obligations.StepRunsFrontCommand : Prop :=
  ∀ (s : State) (c : Instr) (rest : List Instr),
    s.pending = c :: rest → step s = exec c { s with pending := rest }

/-- THE MODEL'S CHOICE (log entry 3). With no command waiting a step moves the clock on by one bit time, or to the
first deadline where one stands before that; a deadline that has passed holds the clock. Moving the clock, here or at
a timer's expiry, moves nothing else but the byte counters of frames being sent, and never moves it back. -/
def Obligations.IdleStepLetsTimePass : Prop :=
  (∀ s : State, s.pending = [] → ∃ d, step s = .next (s.advanceTo d)
      ∧ IsLeast {e | e = s.now + 4 ∨ e ∈ s.deadlines} d)
  ∧ ∀ (s : State) (d : Nat), (s.advanceTo d).now = max s.now d
      ∧ s.keepsBut (s.advanceTo d) [.clock, .laneA, .laneB]
      ∧ ∀ l, (s.advanceTo d).lane l = { s.lane l with byteCounter := ((s.advanceTo d).lane l).byteCounter }

/-- Every command of the table has an effect, possibly none, in every state: none ends in a fault or a refusal. No
command's own effect touches the queue of commands. -/
def Obligations.EveryCommandCompletes : Prop :=
  ∀ (c : Instr) (s : State), ∃ t, exec c s = .next t ∧ t.pending = s.pending

/-- R165, R171: in LOAD no event acts on the card but those that end LOAD, power-on and the loss of power; without
supply none does but power-on. The levels at the inputs alone go on changing, in LOAD and without supply: that is the
model's choice (log entry 12), and so is that the stored fields stand without supply (log entry 4). -/
def Obligations.LoadTakesNoEvent : Prop :=
  ∀ (c : Instr) (s t : State), c ≠ .powerOn → exec c s = .next t →
    (s.powered = false → t = { s with pins := t.pins })
    ∧ (s.loader.mode = .load → c ≠ .lossOfPower →
        (∀ straps image, c ≠ .loadReadDone straps image ∧ c ≠ .loadTimeout straps image) →
        t = { s with pins := t.pins })

/-- R165 with the LOAD tables, R171: power-on puts the card in LOAD from any state; the straps and the image as last
read, the input levels and the clock stay. The card right after reset stands so. A loss of power stops the card, and
nothing else changes until the supply returns as a power-on.
That the stored fields stand while there is no supply is the model's choice (log entry 4). -/
def Obligations.PowerComesAndGoes : Prop :=
  (State.reset.AtLoad ∧ State.reset.powered = true ∧ State.reset.pending = [])
  ∧ ∀ s : State, exec .lossOfPower s = .next { s with powered := false }
    ∧ ∃ t, exec .powerOn s = .next t ∧ t.AtLoad ∧ t.powered = true ∧ t.now = s.now ∧ t.pins = s.pins
      ∧ t.loader.straps = s.loader.straps ∧ t.loader.image = s.loader.image

/-- R166, R163, R164: with all 27 words read the card enters LISTEN at once; at 50 ms with fewer the image is faulty
by its first fault, and the card enters LISTEN on strap values. -/
def Obligations.LoadEndsInListen : Prop :=
  ∀ (s : State) (straps : StrapPins) (image : List Word), s.powered = true → s.loader.mode = .load →
    (image.length = 27 →
      ∃ t, exec (.loadReadDone straps image) s = .next t ∧ t.AtListen straps image ∧ t.now = s.now
        ∧ s.keepsBut t ([.loader, .metering, .regulator, .seq, .groups, .service] ++ followers))
    ∧ (∀ d, image.length < 27 → s.loader.loadTimer = some d →
      ∃ t, exec (.loadTimeout straps image) s = .next t ∧ t.AtListen straps image ∧ t.now = max s.now d
        ∧ t.loader.firstFault = 1 ∧ t.loader.config = some (strapConfiguration straps)
        ∧ s.keepsBut t ([.clock, .loader, .metering, .regulator, .seq, .groups, .service] ++ followers))

/-- R162 to R164: a configuration in use, formed from any straps and any words, lies within the values of the tables,
and no two of its group records carry one index. -/
def Obligations.ConfigurationLiesWithinItsValues : Prop :=
  ∀ (straps : StrapPins) (image : List Word),
    let c := formConfiguration straps image
    (1 ≤ c.ownSection ∧ c.ownSection ≤ 4) ∧ (c.fNom = 50000 ∨ c.fNom = 60000)
      ∧ (100 ≤ c.rating ∧ c.rating ≤ 25000) ∧ (100 ≤ c.reactiveRating ∧ c.reactiveRating ≤ 20000)
      ∧ (400 ≤ c.vNom ∧ c.vNom ≤ 15000) ∧ (c.kp ≤ 255 ∧ c.kf ≤ 255 ∧ c.kq ≤ 255 ∧ c.kv ≤ 255)
      ∧ (5 ≤ c.rampStep ∧ c.rampStep ≤ 200) ∧ (1 ≤ c.startRank ∧ c.startRank ≤ 8)
      ∧ (1 ≤ c.threshold ∧ c.threshold ≤ 255)
      ∧ c.groups.length ≤ 6 ∧ (c.groups.map (·.index)).Nodup
      ∧ (∀ g ∈ c.groups, (1 ≤ g.rank ∧ g.rank ≤ 15) ∧ (1 ≤ g.nominal ∧ g.nominal ≤ 20000))
      ∧ c.demands.length ≤ 2 ∧ (∀ d ∈ c.demands, 1 ≤ d ∧ d ≤ 20000)

/-- R167, R168, R19, R4, R15 to R18, R95, R141, R154, R160: when the listen timer expires the card enters RUN, starts
the timers of RUN, composes its first frame at once, and takes a REQUEST found high on an IDLE claim, which is an
urgent request behind that frame. A transmitter in IDLE sends the first frame at once where its lane is idle and not
STUCK, and keeps it in DEFER otherwise: a lane whose level has not been idle for 80 µs since the entry to LISTEN is
not idle. That the first frame is composed before the REQUESTs are taken (log entry 7), that its DROOP flag is from
before that composition judges METER_FAIL (log entry 33), and that whether a lane is idle is a free value where no
command has shown it (log entry 36), are the model's choices. -/
def Obligations.ListenExpiryEntersRun : Prop :=
  ∀ (s : State) (d : Nat), s.Awake → s.loader.listenTimer = some d →
    let b : State := { (s.advanceTo d).seeLanes with
      loader := { s.loader with mode := .run, listenTimer := none }
      composer := { s.composer with frameTimer := some (max s.now d + 100000) }
      duty := { s.duty with evaluation := some (max s.now d + 100000) }
      ladder := { s.ladder with restoreTimer := some (max s.now d + 1000000) }
      admission := { s.admission with retest := some (max s.now d + 100000) } }
    let idle (l : LaneId) : Prop := ∃ q, q ≤ b.now
      ∧ ((s.lane l).quietFrom = .since q ∨ ((s.lane l).quietFrom = .unseen q ∧ Config.laneSeenIdle l b.now = true))
    ∃ t, exec .listenTimerExpiry s = .next t ∧ t.now = max s.now d
      ∧ State.Settles { b with admission := t.admission } t
      ∧ (s.composer.spacing = none → s.composer.waiting = none →
          b.Composed t .periodic
          ∧ (b.Urges t → t.composer.waiting = some .urgent) ∧ (¬ b.Urges t → t.composer.waiting = none)
          ∧ ∀ l, (s.lane l).tx = .idle → ∃ f, (t.lane l).pendingFrame = some f ∧ f.kind = .periodic
              ∧ f.number = s.composer.nextNumber
              ∧ (idle l ∧ (s.lane l).stuck = false → (t.lane l).tx = .send)
              ∧ (¬ idle l ∨ (s.lane l).stuck = true → (t.lane l).tx = .defer))
      ∧ t.admission.retest = some (t.now + 100000)
      ∧ (∀ n w, s.demand n = some w → (s.claim n).state = .idle → s.pins.request[n] = true →
          (t.claim n).state = .claiming ∨ (t.claim n).state = .waiting)
      ∧ (∀ n, s.demand n = none ∨ (s.claim n).state ≠ .idle ∨ s.pins.request[n] = false → t.claim n = s.claim n)

/-! ### The share link (Section 1) -/

/-- R1, R4, R19: on a lane that is idle and not STUCK, the first active level begins a reception; and a transmitter in
DEFER enters SEND with the byte counter at 0, when its own start bit begins a reception too. After the entry to LISTEN
neither comes before 80 µs of idle level have passed, and either shows that they have: that reading is the model's
(log entry 36). -/
def Obligations.IdleLaneTakesAReceptionOrAFrame : Prop :=
  ∀ (s : State) (l : LaneId) (q : Nat), s.Awake → (s.lane l).quietFrom = .since q ∨ (s.lane l).quietFrom = .unseen q →
    (s.lane l).stuck = false →
    exec (.receptionBegins l) s = .next ((s.advanceTo q).setLane l
      { (s.advanceTo q).lane l with quietFrom := .notIdle, receiving := true, ownEnd := false })
    ∧ ((s.lane l).tx = .defer → exec (.sendStart l) s = .next ((s.advanceTo q).setLane l
      { (s.advanceTo q).lane l with tx := .send, byteCounter := 0, sendStart := some (max s.now q)
                                    quietFrom := .notIdle, receiving := true }))

/-- R1, R8, R12: a broken reception adds nothing to any counter; a frame that fails a check counts once in the check
errors and once in the error window, and is discarded. In both the lane is idle again, unless a frame of the own
transmitter has begun at that same end of frame (R4). -/
def Obligations.BrokenAndBadReceptionsAreDiscarded : Prop :=
  ∀ (s : State) (l : LaneId) (rx : Reception), s.Awake → (s.lane l).receiving = true → (s.lane l).stuck = false →
    let x := s.lane l
    let idle : LaneIf := if x.ownEnd = true ∧ x.tx = .send then { x with ownEnd := false }
      else { x with receiving := false, ownEnd := false, quietFrom := .since s.now }
    (receptionBroken rx = true → exec (.receptionEnd l rx) s = .next (s.setLane l idle))
    ∧ (receptionBroken rx = false → parseFrame (rx.bytes.map (·.value)) = none →
        exec (.receptionEnd l rx) s = .next (s.setLane l { idle with
          checkErrors := min 65535 (x.checkErrors + 1), errorCount := min 255 (x.errorCount + 1) }))

/-- R9, R167, R169: a good frame of the own identity is counted and discarded. With this lane's transmitter in SEND at
its end it is nothing more: no latch sets but those of the kinds that are active. Otherwise it sends a card in LISTEN to
MUTE, is reported as DUP_ID in RUN, where it sets that latch alone, and is nothing more in MUTE. That the mark `ownEnd`
keeps a frame complete at that same instant from counting as a duplicate is the model's reading (log entry 26). -/
def Obligations.OwnIdentityIsReadBackOrDuplicate : Prop :=
  ∀ (s : State) (l : LaneId) (rx : Reception) (f : Frame), s.Awake → (s.lane l).receiving = true →
    (s.lane l).stuck = false → receptionBroken rx = false → parseFrame (rx.bytes.map (·.value)) = some f →
    f.station = s.own →
    let x := s.lane l
    let idle : LaneIf := if x.ownEnd = true ∧ x.tx = .send then { x with ownEnd := false }
      else { x with receiving := false, ownEnd := false, quietFrom := .since s.now }
    let counted := s.setLane l { idle with goodFrames := min 65535 (x.goodFrames + 1) }
    ∃ t, exec (.receptionEnd l rx) s = .next t
      ∧ (x.tx = .send ∨ x.ownEnd = true ∨ s.loader.mode = .mute →
          counted.keepsBut t [.linkOk, .alarms]
          ∧ ∀ k, k ∈ t.alarms.latched ↔ k ∈ s.alarms.latched ∨ t.active k = true)
      ∧ (x.tx ≠ .send → x.ownEnd = false → s.loader.mode = .run →
          counted.keepsBut t [.linkOk, .alarms]
          ∧ ∀ k, k ∈ t.alarms.latched ↔ k ∈ s.alarms.latched ∨ t.active k = true ∨ k = .dupId)
      ∧ t.linkOk = linkOkOf s.conf.select t.laneA.health t.laneB.health
      ∧ (x.tx ≠ .send → x.ownEnd = false → s.loader.mode = .listen →
          s.Followed { counted with loader := { s.loader with mode := .mute, listenTimer := none } } t
          ∧ .dupId ∈ t.alarms.latched)

/-- R9, R13, R21: a good frame of another identity restarts its lane's silence timer, ends that lane's silent
condition, makes the other lane silent where its timer is stopped, and joins the queue; a full queue discards it,
counts it and reports RX_OVERRUN. -/
def Obligations.PeerFrameJoinsTheQueue : Prop :=
  ∀ (s : State) (l : LaneId) (rx : Reception) (f : Frame), s.Awake → (s.lane l).receiving = true →
    (s.lane l).stuck = false → receptionBroken rx = false → parseFrame (rx.bytes.map (·.value)) = some f →
    f.station ≠ s.own →
    let x := s.lane l
    let y := s.lane (otherLane l)
    let idle : LaneIf := if x.ownEnd = true ∧ x.tx = .send then { x with ownEnd := false }
      else { x with receiving := false, ownEnd := false, quietFrom := .since s.now }
    ∃ t, exec (.receptionEnd l rx) s = .next t
      ∧ t.lane l = { idle with goodFrames := min 65535 (x.goodFrames + 1), silence := some (s.now + 500000)
                               silent := false }
      ∧ t.lane (otherLane l) = { y with silent := y.silent || y.silence.isNone }
      ∧ (s.rx.frames.length < 8 → t.rx = { s.rx with frames := s.rx.frames ++ [(l, f)] })
      ∧ (8 ≤ s.rx.frames.length →
          t.rx = { s.rx with overruns := min 65535 (s.rx.overruns + 1) } ∧ .rxOverrun ∈ t.alarms.latched)
      ∧ t.linkOk = linkOkOf s.conf.select t.laneA.health t.laneB.health
      ∧ s.keepsLatches t ∧ s.keepsBut t [.laneA, .laneB, .linkOk, .alarms, .rx]

/-- R4, R6: a frame in SEND is complete when the lane is idle after its last byte, 40 µs for each byte and 80 µs after
them; a next frame becomes the pending one and is sent at once unless the lane is STUCK. At the end of BACKOFF the
transmitter goes to DEFER, and sends at once where the lane is idle and not STUCK. Three things are the model's
readings: the 80 µs run from the end of the whole last byte, its stop bit included (log entry 34), the byte counter
keeps its value after a completion (log entry 22), and the mark `ownEnd` is set where the frame's own reception has
yet to end (log entry 26). -/
def Obligations.FrameCompletesAndBackoffEnds : Prop :=
  ∀ (s : State) (l : LaneId), s.Awake →
    let x := s.lane l
    (∀ t0 f, x.tx = .send → x.sendStart = some t0 → x.pendingFrame = some f →
      let b := s.advanceTo (t0 + 40 * f.bytes.length + 80)
      ∃ t, exec (.frameComplete l) s = .next t ∧ b.keepsBut t [.laneA, .laneB]
        ∧ t.lane (otherLane l) = b.lane (otherLane l)
        ∧ (x.nextFrame = none → t.lane l = { b.lane l with
            tx := .idle, pendingFrame := none, attempts := 0, sendStart := none, quietFrom := .since t.now
            ownEnd := x.receiving })
        ∧ (∀ g, x.nextFrame = some g → (t.lane l).pendingFrame = some g ∧ (t.lane l).nextFrame = none
            ∧ (t.lane l).attempts = 0 ∧ (t.lane l).tx = (if x.stuck then .defer else .send)
            ∧ (x.stuck = false → (t.lane l).byteCounter = 0)))
    ∧ (∀ d, x.backoff = some d →
      let b := s.advanceTo d
      let y : LaneIf := { b.lane l with tx := .defer, backoff := none }
      exec (.backoffExpiry l) s = .next (b.setLane l
        (if x.isIdle b.now = true ∧ x.stuck = false then
          { y with tx := .send, byteCounter := 0, sendStart := some b.now, quietFrom := .notIdle, receiving := true }
        else y)))

/-- R5, R6: a collision in SEND stops the frame, counts, and starts the 48 µs jam, which is part of SEND and is not
read back. At its end the attempt count rises; at 8 the frame is dropped, and otherwise the transmitter backs off for
300 µs times its identity and 1,000 µs times the count, a next frame replacing the aborted one. That the byte counter
is 0 from the collision on is the model's reading (log entry 22). -/
def Obligations.CollisionJamsAndBacksOff : Prop :=
  ∀ (s : State) (l : LaneId), s.Awake →
    let x := s.lane l
    (x.tx = .send → x.jam = none → exec (.collision l) s = .next (s.setLane l { x with
      byteCounter := 0, sendStart := none, jam := some (s.now + 48), collisions := min 65535 (x.collisions + 1) }))
    ∧ (x.jam ≠ none → exec (.collision l) s = .next s)
    ∧ (∀ d, x.jam = some d →
      let b := s.advanceTo d
      ∃ t, exec (.jamEnd l) s = .next t ∧ b.keepsBut t [.laneA, .laneB]
        ∧ t.lane (otherLane l) = b.lane (otherLane l)
        ∧ (7 ≤ x.attempts → x.nextFrame = none → t.lane l = { b.lane l with
            tx := .idle, jam := none, pendingFrame := none, attempts := 0
            collisionDrops := min 65535 (x.collisionDrops + 1) })
        ∧ (∀ g, 7 ≤ x.attempts → x.nextFrame = some g →
            (t.lane l).jam = none ∧ (t.lane l).pendingFrame = some g ∧ (t.lane l).nextFrame = none
            ∧ (t.lane l).attempts = 0 ∧ (t.lane l).collisionDrops = min 65535 (x.collisionDrops + 1)
            ∧ (t.lane l).tx = (if x.isIdle t.now = true ∧ x.stuck = false then .send else .defer))
        ∧ (x.attempts < 7 → t.lane l = { b.lane l with
            tx := .backoff, jam := none, backoff := some (t.now + 300 * s.own.num + 1000 * (x.attempts + 1))
            attempts := (if x.nextFrame = none then x.attempts + 1 else 0)
            pendingFrame := (if x.nextFrame = none then x.pendingFrame else x.nextFrame), nextFrame := none
            replaced := (if x.nextFrame = none then x.replaced else min 65535 (x.replaced + 1)) }))

/-- R10, R7, R11, R4: on entering STUCK a reception is abandoned, and where the active interval began in SEND the driver
test begins, with a next frame in the pending one's place; the lane's alarm kind latches. STUCK ends after 10 ms of
idle level, and a transmitter in DEFER then sends at once. That the command says where the interval began is the
model's choice (log entry 8), and that the byte counter is 0 at the start of a driver test is its reading (log entry
22). -/
def Obligations.StuckLaneIsTestedAndEnds : Prop :=
  ∀ (s : State) (l : LaneId), s.Awake →
    let x := s.lane l
    (∀ inSend, x.stuck = false →
      let stuck : LaneIf := { x with stuck := true, receiving := false, ownEnd := false, quietFrom := .notIdle }
      ∃ t, exec (.stuckEntry l inSend) s = .next t ∧ (t.lane l).health = .stuck
        ∧ (inSend = false ∨ x.tx = .disabled ∨ x.tx = .isolated → t.lane l = stuck)
        ∧ (inSend = true → x.tx ≠ .disabled → x.tx ≠ .isolated → t.lane l = { stuck with
            tx := .isolated, byteCounter := 0, sendStart := none, jam := none, backoff := none
            test := some (s.now + 10000)
            attempts := (if x.nextFrame = none then x.attempts else 0)
            pendingFrame := (if x.nextFrame = none then x.pendingFrame else x.nextFrame), nextFrame := none
            replaced := (if x.nextFrame = none then x.replaced else min 65535 (x.replaced + 1)) })
        ∧ (if l = .a then AlarmKind.laneA else .laneB) ∈ t.alarms.latched
        ∧ t.lane (otherLane l) = s.lane (otherLane l)
        ∧ t.linkOk = linkOkOf s.conf.select t.laneA.health t.laneB.health
        ∧ s.keepsLatches t ∧ s.keepsBut t [.laneA, .laneB, .linkOk, .alarms])
    ∧ (x.stuck = true →
      let free : LaneIf := { x with stuck := false, quietFrom := .since s.now }
      ∃ t, exec (.stuckEnd l) s = .next t
        ∧ t.lane l = (if x.tx = .defer then
            { free with tx := .send, byteCounter := 0, sendStart := some s.now, quietFrom := .notIdle, receiving := true }
          else free)
        ∧ t.lane (otherLane l) = s.lane (otherLane l)
        ∧ t.linkOk = linkOkOf s.conf.select t.laneA.health t.laneB.health
        ∧ s.keepsLatches t ∧ s.keepsBut t [.laneA, .laneB, .linkOk, .alarms])

/-- R7: the level returning before the test timer expires shows the own driver at fault, and the transmitter is
DISABLED with its driver alarm; the timer expiring first leaves it ISOLATED until the lane is idle, when it goes to
DEFER with a frame pending, or to IDLE. That the attempt count stays in DISABLED (log entry 23), and that the lane
counts as idle 80 µs after the level has returned (log entry 25), are the model's readings. -/
def Obligations.DriverTestEnds : Prop :=
  ∀ (s : State) (l : LaneId), s.Awake → (s.lane l).tx = .isolated →
    let x := s.lane l
    (∀ d, x.test = some d →
      (∃ t, exec (.driverTestLaneIdle l) s = .next t
        ∧ t.lane l = { x with tx := .disabled, pendingFrame := none, test := none, quietFrom := .since (s.now + 80) }
        ∧ (if l = .a then AlarmKind.laneADriver else .laneBDriver) ∈ t.alarms.latched
        ∧ t.lane (otherLane l) = s.lane (otherLane l) ∧ s.keepsLatches t
        ∧ s.keepsBut t [.laneA, .laneB, .linkOk, .alarms])
      ∧ exec (.driverTestExpiry l) s = .next ((s.advanceTo d).setLane l { (s.advanceTo d).lane l with test := none }))
    ∧ (x.test = none → exec (.isolatedLaneIdle l) s = .next (s.setLane l
        (if x.pendingFrame = none then { x with tx := .idle, quietFrom := .since s.now }
        else if x.stuck then { x with tx := .defer, quietFrom := .since s.now }
        else { x with tx := .send, byteCounter := 0, sendStart := some s.now, quietFrom := .notIdle, receiving := true })))

/-- R12, R13, R14: at an error window's expiry the degraded condition is judged against T, the count becomes 0 and the
window restarts. At a silence timer's expiry the timer stops, and the lane becomes silent where the other lane's timer
is running. LINK_OK follows each. -/
def Obligations.LaneTimersJudgeTheLane : Prop :=
  ∀ (s : State) (l : LaneId) (d : Nat), s.Awake →
    let b := s.advanceTo d
    ((s.lane l).errorWindow = some d →
      ∃ t, exec (.errorWindowExpiry l) s = .next t
        ∧ t.lane l = { b.lane l with degraded := decide (s.conf.threshold ≤ (s.lane l).errorCount), errorCount := 0
                                     errorWindow := some (t.now + 1000000) }
        ∧ t.lane (otherLane l) = b.lane (otherLane l)
        ∧ t.linkOk = linkOkOf s.conf.select t.laneA.health t.laneB.health
        ∧ s.keepsLatches t ∧ b.keepsBut t [.laneA, .laneB, .linkOk, .alarms])
    ∧ ((s.lane l).silence = some d →
      ∃ t, exec (.silenceTimerExpiry l) s = .next t
        ∧ t.lane l = { b.lane l with
            silence := none, silent := (s.lane l).silent || (s.lane (otherLane l)).silence.isSome }
        ∧ t.lane (otherLane l) = b.lane (otherLane l)
        ∧ t.linkOk = linkOkOf s.conf.select t.laneA.health t.laneB.health
        ∧ s.keepsLatches t ∧ b.keepsBut t [.laneA, .laneB, .linkOk, .alarms])

/-- R2, R8: the transmitter drives the bytes of the layout table, two-byte fields most significant byte first, with the
check over bytes 2 to the last before it, which takes each byte's most significant bit first from all ones; a frame of g
group and c claim entries is 23 + 4g + 5c bytes long, from 23 to 57. Every good frame is read back from its bytes,
whatever its fields. The receiver takes no bytes but those with the sync, with the length for the counts they carry,
with the check recomputed over what was received, and with every field within the values of the table. -/
def Obligations.FrameSurvivesTheLane : Prop :=
  let one (n : Nat) : List Byte := [BitVec.ofNat 8 n]
  let two (n : Nat) : List Byte := [BitVec.ofNat 8 (n / 256), BitVec.ofNat 8 n]
  let signed (x : Int) : List Byte := two (x % 65536).toNat
  let bit (k : Nat) (b : Bool) : Nat := if b then 2 ^ k else 0
  let groupStates := [GroupCode.connected, .shedPending, .shed, .failed, .restorePending, .openExternal, .inhibited]
  let setStates := [SetState.off, .standby, .starting, .loading, .sharing, .unloading, .opening, .tripped, .startFailed]
  (crc [] = 0xFFFF ∧ ∀ bs b, crc (bs ++ [b]) = (List.range 8).foldl
    (fun (r : Word) k => if r.getLsbD 15 = b.getLsbD (7 - k) then r <<< 1 else (r <<< 1) ^^^ 0x1021) (crc bs))
  ∧ (∀ f : Frame,
    let r := f.content
    let covered := one (if f.kind = .periodic then 1 else 2) ++ one (f.station.val + 1) ++ one f.number
      ++ one (16 * r.startRank + r.islandSection)
      ++ one (bit 0 r.tieView.tie1 + bit 1 r.tieView.tie2 + bit 2 r.tieView.tie3) ++ one (setStates.idxOf r.setState)
      ++ one (bit 0 r.flags.breakerClosed + bit 1 r.flags.stale + bit 2 r.flags.droop + bit 3 r.flags.configFault
          + bit 4 r.flags.unloadPending)
      ++ two r.rating ++ two r.reactiveRating ++ signed r.p ++ signed r.q ++ two r.frequency ++ one r.actionAge
      ++ one (16 * r.claims.length + r.groups.length)
      ++ r.groups.flatMap (fun g =>
          one (16 * g.index.val + g.rank) ++ two g.nominal ++ one (groupStates.idxOf g.state))
      ++ r.claims.flatMap (fun c => one c.index.val ++ two c.demand
          ++ one (1 + [ClaimCode.claiming, .granted, .waiting].idxOf c.state) ++ one c.age)
    f.bytes = [0xC3, 0x3C] ++ covered ++ two (crc covered).toNat
    ∧ f.bytes.length = 23 + 4 * r.groups.length + 5 * r.claims.length
    ∧ (f.Good → parseFrame f.bytes = some f ∧ 23 ≤ f.bytes.length ∧ f.bytes.length ≤ 57))
  ∧ ∀ (bs : List Byte) (f : Frame), parseFrame bs = some f →
    f.Good ∧ bs.take 2 = [0xC3, 0x3C]
    ∧ bs.length = 23 + 4 * f.content.groups.length + 5 * f.content.claims.length
    ∧ bs.drop (bs.length - 2) = two (crc ((bs.drop 2).take (bs.length - 4))).toNat

/-- R17, R18, R121, R161, R2, R8, R164: a composed frame carries its kind, the next number, the identity, the section,
the start rank and the ratings in use, the own tie view, the set state, the flags, the own action age, one entry for
each configured own group, and one for each own claim in CLAIMING, GRANTED or WAITING, in ascending index; its P, Q
and frequency are the latest record's where one has come since the last composition, and those last sent otherwise.
Composed past LOAD, by a card that holds the two invariants that every step keeps (`StepKeepsCountsAndChannels`), it
is one that every other card takes as good and reads as composed, whatever straps and image were read at LOAD. That
its DROOP flag is the sharing mode from before the same composition judges METER_FAIL is the model's choice (log entry
33). -/
def Obligations.ComposedFrameIsGood : Prop :=
  ∀ (s : State) (k : FrameKind),
    let f := s.composedFrame k
    let c := f.content
    let listed (st : ClaimState) (code : ClaimCode) : Prop := (st = .claiming ∧ code = .claiming)
      ∨ (st = .granted ∧ code = .granted) ∨ (st = .waiting ∧ code = .waiting)
    (f.kind = k ∧ f.station = s.own ∧ f.number = s.composer.nextNumber)
    ∧ (c.islandSection = s.conf.ownSection ∧ c.startRank = s.conf.startRank ∧ c.rating = s.conf.rating
      ∧ c.reactiveRating = s.conf.reactiveRating)
    ∧ (c.tieView = s.island.tieView ∧ c.setState = s.seq.state ∧ c.actionAge = s.ladder.actionAge)
    ∧ (c.flags.breakerClosed = s.pins.breaker ∧ c.flags.stale = !s.composer.arrival
      ∧ (c.flags.droop = true ↔ s.island.mode = .droop)
      ∧ (c.flags.configFault = true ↔ s.loader.config ≠ none ∧ s.loader.firstFault ≠ 0)
      ∧ c.flags.unloadPending = s.seq.pendingUnload)
    ∧ (∀ r, s.composer.arrival = true → s.metering.latest = some r →
        c.p = r.p ∧ c.q = r.q ∧ c.frequency = r.frequency)
    ∧ (s.composer.arrival = false →
        c.p = s.composer.lastP ∧ c.q = s.composer.lastQ ∧ c.frequency = s.composer.lastFrequency)
    ∧ ((c.groups.map (·.index)).Pairwise (· < ·) ∧ ∀ g, g ∈ c.groups ↔
        ∃ record st, s.groupRecord g.index = some record ∧ (s.channel g.index).state = some st
          ∧ g.rank = record.rank ∧ g.nominal = record.nominal ∧ g.state = st.frameCode)
    ∧ ((c.claims.map (·.index)).Pairwise (· < ·) ∧ ∀ x, x ∈ c.claims ↔
        s.demand x.index = some x.demand ∧ listed (s.claim x.index).state x.state ∧ x.age = (s.claim x.index).age)
    ∧ (s.loader.mode ≠ .load → s.ComposerSafe → s.CountsSafe → f.Good ∧ parseFrame f.bytes = some f)

/-- R15 to R18, R3, R4: a frame timer's expiry in RUN is a periodic request; with the spacing timer stopped it is
composed at once, and otherwise it waits, merged with what waits already; the frame timer runs on. At the spacing
timer's expiry what waits is composed at once in its kind, and where nothing waits the timer stops. The frame is the
one composed from the state as it stands (`ComposedFrameIsGood` says what it carries), and both lanes are handed it: a
transmitter in IDLE goes to DEFER with it, or to SEND where the lane is idle and not STUCK; one in DEFER, BACKOFF or
ISOLATED has its pending frame replaced; one in SEND holds it as the next frame; and one that is DISABLED discards it.
That the DROOP flag is from before the composition judges METER_FAIL is the model's choice (log entry 33). -/
def Obligations.ComposerTimersMakeTheFrames : Prop :=
  ∀ (s : State) (d : Nat), s.Awake →
    (s.loader.mode = .run → s.composer.frameTimer = some d →
      let asked : FrameKind := if s.composer.waiting = some .urgent then .urgent else .periodic
      let b : State := { s.advanceTo d with
        composer := { s.composer with frameTimer := some (max s.now d + 100000), waiting := some asked } }
      ∃ t, exec .frameTimerExpiry s = .next t ∧ b.Settles t
        ∧ (s.composer.spacing = none → b.Composed t asked ∧ t.composer.waiting = none)
        ∧ (s.composer.spacing ≠ none → t.laneA = b.laneA ∧ t.laneB = b.laneB ∧ t.composer = b.composer))
    ∧ (s.composer.spacing = some d →
      let b : State := { s.advanceTo d with composer := { s.composer with spacing := none } }
      ∃ t, exec .spacingTimerExpiry s = .next t ∧ b.Settles t
        ∧ (∀ k, s.composer.waiting = some k → b.Composed t k ∧ t.composer.waiting = none)
        ∧ (s.composer.waiting = none → t.laneA = b.laneA ∧ t.laneB = b.laneB ∧ t.composer = b.composer))

/-- R18: METER_FAIL over a composition, at the spacing timer's expiry with a request waiting, or at the frame timer's
expiry in RUN with the spacing timer stopped. A fresh one sends the latest record, clears the stale count, and ends
METER_FAIL where two records have come since the last stale one; a stale one repeats the values last sent, and the third
in a row makes METER_FAIL active, which is a cause of DROOP. -/
def Obligations.CompositionJudgesTheMetering : Prop :=
  ∀ (s : State) (d : Nat), s.Awake →
    let judged (t : State) : Prop :=
      (∀ r, s.composer.arrival = true → s.metering.latest = some r →
          t.composer.lastP = r.p ∧ t.composer.lastQ = r.q ∧ t.composer.lastFrequency = r.frequency
          ∧ t.composer.staleCount = 0 ∧ t.composer.freshCount = s.composer.freshCount
          ∧ (t.composer.meterFail = true ↔ s.composer.meterFail = true ∧ s.composer.freshCount ≠ 2))
      ∧ (s.composer.arrival = false →
          t.composer.lastP = s.composer.lastP ∧ t.composer.lastQ = s.composer.lastQ
          ∧ t.composer.lastFrequency = s.composer.lastFrequency
          ∧ t.composer.staleCount = min 255 (s.composer.staleCount + 1) ∧ t.composer.freshCount = 0
          ∧ (t.composer.meterFail = true ↔ s.composer.meterFail = true ∨ 3 ≤ t.composer.staleCount))
      ∧ t.composer.arrival = false
      ∧ (t.composer.meterFail = true → t.island.mode = .droop ∧ .meterFail ∈ t.alarms.latched)
    (∀ k, s.composer.spacing = some d → s.composer.waiting = some k →
      ∃ t, exec .spacingTimerExpiry s = .next t ∧ judged t)
    ∧ (s.loader.mode = .run → s.composer.frameTimer = some d → s.composer.spacing = none →
      ∃ t, exec .frameTimerExpiry s = .next t ∧ judged t)

/-! ### The peer table (Section 2) -/

/-- R22, R26, R31, R37: a frame at distance 0, or one at 128 to 254 for a QUALIFYING or LIVE entry, is counted at its
entry and card-wide, marks its lane as heard, and is discarded. Intakes stand at least 1 ms apart. -/
def Obligations.DualAndLateFramesAreCounted : Prop :=
  ∀ (s : State) (l : LaneId) (f : Frame) (rest : List (LaneId × Frame)) (m : Nat), s.Awake →
    s.rx.frames = (l, f) :: rest → (s.entry f.station).state ≠ .empty →
    (s.entry f.station).lastNumber = some m →
    let d := (f.number + 255 - m) % 255
    let e := s.entry f.station
    (d = 0 ∨ (128 ≤ d ∧ (e.state = .qualifying ∨ e.state = .live))) →
    ∃ t, exec .intake s = .next t ∧ t.rx = { s.rx with frames := rest, lastIntake := some t.now }
      ∧ s.now ≤ t.now ∧ (∀ u, s.rx.lastIntake = some u → u + 1000 ≤ t.now)
      ∧ t.entry f.station = { e with
          dualCopies := (if d = 0 then min 65535 (e.dualCopies + 1) else e.dualCopies)
          lateFrames := (if d = 0 then e.lateFrames else min 65535 (e.lateFrames + 1))
          heardA := (if l = .a then some (t.now + 500000) else e.heardA)
          heardB := (if l = .b then some (t.now + 500000) else e.heardB) }
      ∧ t.peers.dualCopies = (if d = 0 then min 65535 (s.peers.dualCopies + 1) else s.peers.dualCopies)
      ∧ t.peers.lateFrames = (if d = 0 then s.peers.lateFrames else min 65535 (s.peers.lateFrames + 1))
      ∧ (∀ i, i ≠ f.station → t.entry i = s.entry i)
      ∧ (s.advanceTo t.now).keepsBut t [.rx, .peers]

/-- R22, R26 to R31, R128, R133 to R135: an accepted frame replaces the record, number and time of its entry, restarts
its timer and moves its state: from EMPTY to QUALIFYING, from QUALIFYING by the 250 ms gap, and from STALE and PHANTOM
to LIVE. The ladder takes up the change, and with it the end of a slow step in flight. A frame is a trip notice only
where it reports TRIPPED at an entry that was LIVE, STALE or PHANTOM and whose record before it was LOADING, SHARING
or UNLOADING: without one the own set, the regulator and the duty logic stand. The slow step that a held request then
begins restarts a TRIP pulse that still runs (log entry 18). -/
def Obligations.AcceptedFrameReplacesTheRecord : Prop :=
  ∀ (s : State) (l : LaneId) (f : Frame) (rest : List (LaneId × Frame)), s.Awake → s.rx.frames = (l, f) :: rest →
    let e := s.entry f.station
    (e.state = .empty
      ∨ ∃ m, e.lastNumber = some m ∧ (f.number + 255 - m) % 255 ≠ 0
          ∧ (e.state = .stale ∨ e.state = .phantom ∨ (f.number + 255 - m) % 255 ≤ 127)) →
    let entered (t : State) (st : EntryState) (n : Nat) : State :=
      { (s.advanceTo t.now).setEntry f.station { e with
            state := st, qualifyCount := n, record := some f.content, lastNumber := some f.number
            lastTime := some t.now, timerFrom := some t.now
            previousSetState := e.record.map (·.setState)
            heardA := (if l = .a then some (t.now + 500000) else e.heardA)
            heardB := (if l = .b then some (t.now + 500000) else e.heardB) } with
        rx := { s.rx with frames := rest, lastIntake := some t.now } }
    let notice : Prop := f.content.setState = .tripped ∧ (e.state = .live ∨ e.state = .stale ∨ e.state = .phantom)
      ∧ ∃ r, e.record = some r ∧ (r.setState = .loading ∨ r.setState = .sharing ∨ r.setState = .unloading)
    ∃ t st n, exec .intake s = .next t
      ∧ s.now ≤ t.now ∧ (∀ u, s.rx.lastIntake = some u → u + 1000 ≤ t.now)
      ∧ s.Followed { entered t st n with
          groups := t.groups, ladder := t.ladder, seq := t.seq, regulator := t.regulator, duty := t.duty } t
      ∧ (¬ notice → t.seq = s.seq ∧ t.regulator = s.regulator ∧ t.duty = s.duty
          ∧ s.LadderSpread (entered t st n) t)
      ∧ (e.state = .empty → st = .qualifying ∧ n = 1)
      ∧ (∀ u, e.state = .qualifying → e.lastTime = some u → t.now ≤ u + 250000 → e.qualifyCount < 2 →
          st = .qualifying ∧ n = e.qualifyCount + 1)
      ∧ (∀ u, e.state = .qualifying → e.lastTime = some u → t.now ≤ u + 250000 → 2 ≤ e.qualifyCount →
          st = .live ∧ n = 3)
      ∧ (∀ u, e.state = .qualifying → e.lastTime = some u → u + 250000 < t.now → st = .qualifying ∧ n = 1)
      ∧ (e.state = .live → st = .live ∧ n = e.qualifyCount)
      ∧ (e.state = .stale ∨ e.state = .phantom → st = .live ∧ n = 3)

/-- R30, R42, R91, R98, R137 to R140: a frame that reports TRIPPED after LOADING, SHARING or UNLOADING of the record
before it, where that record lies in a section of the island, is dealt with by a card in RUN: a block shed against
that record's P, and the trip-recent timer. An own unload in progress is aborted after that, so that it still counts
as UNLOADING in the deficit. From another section the notice moves none of these. That the frame's own change of the
ladder, and a slow step held behind it, come before the block shed is the model's reading (log entry 15), and so is
that a TRIP pulse that still runs starts afresh (log entry 18). -/
def Obligations.PeerTripIsNoticed : Prop :=
  ∀ (s : State) (l : LaneId) (f : Frame) (rest : List (LaneId × Frame)) (m : Nat) (r : PeerRecord), s.Awake →
    s.rx.frames = (l, f) :: rest → f.station ≠ s.own → (s.entry f.station).lastNumber = some m →
    (f.number + 255 - m) % 255 ≠ 0 →
    let e := s.entry f.station
    (e.state = .stale ∨ e.state = .phantom ∨ (e.state = .live ∧ (f.number + 255 - m) % 255 ≤ 127)) →
    e.record = some r → (r.setState = .loading ∨ r.setState = .sharing ∨ r.setState = .unloading) →
    f.content.setState = .tripped →
    let inIsland := r.islandSection ∈ islandSections s.conf.ownSection s.island.tieView
    ∃ t,
      let b : State := { (s.advanceTo t.now).setEntry f.station { e with
            state := .live, qualifyCount := (if e.state = .live then e.qualifyCount else 3), record := some f.content
            lastNumber := some f.number, lastTime := some t.now, timerFrom := some t.now
            previousSetState := some r.setState
            heardA := (if l = .a then some (t.now + 500000) else e.heardA)
            heardB := (if l = .b then some (t.now + 500000) else e.heardB) } with
        rx := { s.rx with frames := rest, lastIntake := some t.now } }
      let u := b.spread
      exec .intake s = .next t ∧ s.LadderSpread b u
      ∧ (inIsland → s.loader.mode = .run → u.BlockShed t f.station r.p)
      ∧ (¬ inIsland ∨ s.loader.mode ≠ .run → t.groups = u.groups ∧ t.ladder.actionAge = u.ladder.actionAge)
      ∧ t.duty = (if inIsland ∧ s.loader.mode = .run then { s.duty with tripRecent := some (t.now + 5000000) }
          else s.duty)
      ∧ (inIsland → s.seq.state = .unloading →
          t.seq = { s.seq with state := .sharing, unloadTimer := none, openingTimer := none, unloadKind := .none }
          ∧ t.regulator = { s.regulator with rampTarget := none })
      ∧ (¬ inIsland ∨ s.seq.state ≠ .unloading → t.seq = s.seq ∧ t.regulator = s.regulator)

/-- R32 to R34, R24, R127, R128, R133 to R135: at 350 ms without an accepted frame a LIVE entry becomes STALE and keeps
its record, and an entry in any other state stays as it is; at 1,000 ms a STALE entry whose record is online becomes
PHANTOM with its record, and any other STALE or QUALIFYING entry becomes EMPTY, keeping its two counters alone. The
ladder follows: a key whose entry's state changed or whose entry left leaves the skip set, a slow step in flight on an
entry that is CONNECTED no more ends, and a held request then begins a new one, in which a TRIP pulse that still runs
starts afresh (log entry 18). -/
def Obligations.SilentEntryFades : Prop :=
  ∀ (s : State) (i : Station) (u : Nat), s.Awake → (s.entry i).timerFrom = some u →
    let e := s.entry i
    let spreads (b t : State) : Prop :=
      s.Followed { b with groups := t.groups, ladder := t.ladder } t ∧ s.LadderSpread b t
    (e.state = .live →
      let b := (s.advanceTo (u + 350000)).setEntry i { e with state := .stale }
      ∃ t, exec (.entryTimer350 i) s = .next t ∧ spreads b t)
    ∧ (e.state ≠ .live → exec (.entryTimer350 i) s = .next s)
    ∧ (∀ r, e.state = .stale → e.record = some r → r.setState.online = true →
      let b := (s.advanceTo (u + 1000000)).setEntry i { e with state := .phantom, timerFrom := none }
      ∃ t, exec (.entryTimer1000 i) s = .next t ∧ spreads b t ∧ .phantom ∈ t.alarms.latched)
    ∧ (e.state = .qualifying ∨ (e.state = .stale ∧ ∀ r, e.record = some r → r.setState.online = false) →
      let b := (s.advanceTo (u + 1000000)).setEntry i (PeerEntry.empty e.lateFrames e.dualCopies)
      ∃ t, exec (.entryTimer1000 i) s = .next t ∧ spreads b t)

/-! ### Islands (Section 3) -/

/-- R39, R40, R43, R49, R128, R133 to R135: a tie level that differs from the filtered state starts the tie's 50 ms
filter, and a return to the filtered state stops it. When the filter expires the filtered state takes the level, the
section set is formed anew, and a LIVE or STALE peer that reports another tie view gives TIE_DISAGREE and DROOP. The
ladder takes up the change: a slow step in flight on an entry that left ends, and a held request then begins a new
one, in which a TRIP pulse that still runs starts afresh (log entry 18). -/
def Obligations.TieInputsReshapeTheIsland : Prop :=
  ∀ (s : State) (tie : Fin 3), s.Awake →
    (∀ closed, s.pins.ties[tie] ≠ closed → exec (.tieInputChange tie closed) s = .next { s with
      pins := { s.pins with ties := s.pins.ties.set tie closed }
      island := { s.island with tieFilters := (s.island.tieFilters.set tie
        (if closed = s.island.tieView.at tie then none else some (s.now + 50000))) } })
    ∧ (∀ d, s.island.tieFilters[tie] = some d →
      let b : State := { s.advanceTo d with island := { s.island with
        tieView := s.island.tieView.set tie s.pins.ties[tie], tieFilters := s.island.tieFilters.set tie none } }
      ∃ t, exec (.tieFilterExpiry tie) s = .next t
        ∧ s.Followed { b with groups := t.groups, ladder := t.ladder } t ∧ s.LadderSpread b t
        ∧ t.island.sections = islandSections s.conf.ownSection t.island.tieView
        ∧ (t.island.tieDisagree = true ↔ ∃ i r, ((s.entry i).state = .live ∨ (s.entry i).state = .stale)
            ∧ (s.entry i).record = some r ∧ r.tieView ≠ t.island.tieView)
        ∧ (t.island.tieDisagree = true → t.island.mode = .droop ∧ .tieDisagree ∈ t.alarms.latched))

/-- R40: the island section set is the own section with every section reached from it by crossing closed ties, in
ascending order. -/
def Obligations.SectionSetIsWhatTiesReach : Prop :=
  ∀ (own : Nat) (v : TieView), 1 ≤ own → own ≤ 4 →
    (∀ x, x ∈ islandSections own v ↔
      Relation.ReflTransGen (fun a b => ∃ k, v.closed k = true ∧ ((a = k ∧ b = k + 1) ∨ (a = k + 1 ∧ b = k))) own x)
    ∧ (islandSections own v).Pairwise (· < ·)

/-- R50, R51: the return timer's expiry, in an island kept up to date, brings ISOCH, releases DROOP and stops the
timer. It asks the composer for nothing. -/
def Obligations.ReturnTimerBringsIsoch : Prop :=
  ∀ (s : State) (d : Nat), s.Awake → s.IslandSafe → s.island.returnTimer = some d →
    let b : State := { s.advanceTo d with island := { s.island with mode := .isoch, returnTimer := none } }
    ∃ t, exec .returnTimerExpiry s = .next t ∧ b.Settles t ∧ t.laneA = b.laneA ∧ t.laneB = b.laneB
      ∧ t.composer = s.composer ∧ t.island.mode = .isoch
      ∧ t.island.droopOut = false ∧ t.island.returnTimer = none

/-- R41, R43 to R47, R49 to R51: the members are the own station and every LIVE, STALE or PHANTOM entry whose record
lies in a section of the island. Each contributes at most once. The own station contributes by the table of R44 with
the own P and Q and the ratings in use, a LIVE or STALE member with the values of its record, and a PHANTOM member its
record's P and ratings to load and capacity. The island quantities are the sums over these contributions, and the
island frequency is that of the latest own record. While a cause is active, a card not in RUN, TIE_DISAGREE,
METER_FAIL or a PHANTOM member, the mode is DROOP and the return timer is stopped; without one a card in DROOP starts
its stopped timer of 2,000 ms, and a running timer and ISOCH stand. The DROOP output follows the mode. -/
def Obligations.PeerContributesByItsState : Prop :=
  ∀ s : State,
    let t := s.resolve
    let sections := islandSections s.conf.ownSection s.island.tieView
    let cs := s.contributions t.island.members t.island.mode
    let capacity := cs.filter (·.inCapacity)
    let pool := cs.filter (·.inPool)
    let values (c : Contribution) (i : Station) (p q : Int) (rating reactive : Nat) : Prop :=
      c.station = i ∧ c.p = p ∧ c.q = q ∧ c.rating = rating ∧ c.reactiveRating = reactive
    let cause := s.loader.mode ≠ .run ∨ t.island.tieDisagree = true ∨ s.composer.meterFail = true
      ∨ ∃ i ∈ t.island.members, i ≠ s.own ∧ (s.entry i).state = .phantom
    (∀ i, i ∈ t.island.members ↔ i = s.own
        ∨ (((s.entry i).state = .live ∨ (s.entry i).state = .stale ∨ (s.entry i).state = .phantom)
          ∧ ∃ r, (s.entry i).record = some r ∧ r.islandSection ∈ sections))
    ∧ (cs.map (·.station)).Nodup ∧ (∀ c ∈ cs, c.station ∈ t.island.members)
    ∧ (∃ c ∈ cs, values c s.own s.island.ownP s.island.ownQ s.conf.rating s.conf.reactiveRating
        ∧ (c.inLoad = true ↔ s.seq.state.online = true)
        ∧ (c.inCapacity = true ↔ s.seq.state = .loading ∨ s.seq.state = .sharing)
        ∧ (c.inPool = true ↔ s.seq.state = .sharing ∧ t.island.mode = .isoch ∧ s.composer.meterFail = false))
    ∧ (∀ i r, i ≠ s.own → (s.entry i).record = some r → r.islandSection ∈ sections →
        ((s.entry i).state = .live ∨ (s.entry i).state = .stale →
          ∃ c ∈ cs, values c i r.p r.q r.rating r.reactiveRating
            ∧ (c.inLoad = true ↔ r.setState.online = true)
            ∧ (c.inCapacity = true ↔ r.setState = .loading ∨ r.setState = .sharing)
            ∧ (c.inPool = true ↔ r.setState = .sharing ∧ r.flags.droop = false ∧ r.flags.stale = false))
        ∧ ((s.entry i).state = .phantom →
          ∃ c ∈ cs, c.station = i ∧ c.p = r.p ∧ c.rating = r.rating ∧ c.reactiveRating = r.reactiveRating
            ∧ c.inLoad = true ∧ c.inCapacity = true ∧ c.inPool = false))
    ∧ t.island.pLoad = ((cs.filter (·.inLoad)).map (·.p)).sum
    ∧ t.island.rCap = (capacity.map (·.rating)).sum ∧ t.island.qrCap = (capacity.map (·.reactiveRating)).sum
    ∧ t.island.online = capacity.length
    ∧ t.island.pPool = (pool.map (·.p)).sum ∧ t.island.rPool = (pool.map (·.rating)).sum
    ∧ t.island.qPool = (pool.map (·.q)).sum ∧ t.island.qrPool = (pool.map (·.reactiveRating)).sum
    ∧ t.island.frequency = (s.metering.latest.map (·.frequency)).getD 0
    ∧ (t.island.tieDisagree = true ↔ ∃ i r, ((s.entry i).state = .live ∨ (s.entry i).state = .stale)
        ∧ (s.entry i).record = some r ∧ r.tieView ≠ s.island.tieView)
    ∧ (cause → t.island.mode = .droop ∧ t.island.returnTimer = none)
    ∧ (¬ cause → s.island.mode = .droop → s.island.returnTimer = none →
        t.island.mode = .droop ∧ t.island.returnTimer = some (s.now + 2000000))
    ∧ (¬ cause → s.island.mode = .isoch ∨ s.island.returnTimer ≠ none →
        t.island.mode = s.island.mode ∧ t.island.returnTimer = s.island.returnTimer)
    ∧ (t.island.droopOut = true ↔ t.island.mode = .droop)

/-! ### Metering and regulation (Section 4) -/

/-- R18, R45, R53 to R57: an interval whose self-check failed forms no record, and in warm-up a record is discarded
and the count falls by 1. Past warm-up a good interval delivers its record, clamped, with the frequency 0 on a bus
below 10 % of the nominal voltage; it sets the arrival mark and reaches the island: the own P and Q become the
record's while METER_FAIL is clear, and are held while it is active. A record makes no METER_FAIL. The interval timer
restarts in every case. -/
def Obligations.MeteringIntervalFormsARecord : Prop :=
  ∀ (s : State) (m : Measurement) (d : Nat), s.Awake → s.metering.interval = some d →
    ((m.referenceHeld = false ∨ m.channelsDone = false ∨ 0 < s.metering.warmUp) →
      exec (.meteringIntervalExpiry m) s = .next { s.advanceTo d with metering := { s.metering with
        interval := some (max s.now d + 50000)
        warmUp := (if m.referenceHeld = true ∧ m.channelsDone = true then s.metering.warmUp - 1
          else s.metering.warmUp) } })
    ∧ (s.Delivers m d →
      ∃ t r, exec (.meteringIntervalExpiry m) s = .next t
        ∧ s.Followed { s.advanceTo d with
            metering := { interval := some (t.now + 50000), latest := some r, warmUp := 0 }
            composer := { s.composer with arrival := true, freshCount := min 2 (s.composer.freshCount + 1) }
            seq := t.seq, regulator := t.regulator, groups := t.groups, ladder := t.ladder } t
        ∧ r.p = max (-32000) (min 32000 m.p) ∧ r.q = max (-32000) (min 32000 m.q)
        ∧ (r.voltage : Int) = max 0 (min 15000 m.voltage)
        ∧ (r.busValid = true ↔ s.conf.vNom ≤ 10 * r.voltage)
        ∧ (r.busValid = true → (r.frequency : Int) = max 40000 (min 65535 m.frequency))
        ∧ (r.busValid = false → r.frequency = 0) ∧ t.island.frequency = r.frequency
        ∧ (s.composer.meterFail = false → t.composer.meterFail = false)
        ∧ (t.composer.meterFail = false → t.island.ownP = r.p ∧ t.island.ownQ = r.q)
        ∧ (t.composer.meterFail = true → t.island.ownP = s.island.ownP ∧ t.island.ownQ = s.island.ownQ))

/-- R59 to R67, R69 to R72: a record that finds the card out of RUN, the set not online or OPENING, the mode DROOP or
the bus not valid moves no bias; held in LOADING or UNLOADING, it sets an unset ramp target to the own load. A worked
record moves each bias by its increment: against the pool's per-unit share in SHARING, and against the ramp target in
LOADING and UNLOADING, which has first taken its step, or has been set to the own load where it was unset. Each error
passes its deadband and then its clamp, each weighted sum is divided by 1,024 and rounded, and each bias saturates. -/
def Obligations.RecordMovesTheBiases : Prop :=
  ∀ (s : State) (m : Measurement) (d : Nat), s.Delivers m d →
    let r := formRecord m s.conf.vNom
    let isl := s.foundBy m d
    let share (load : Int) (rating : Nat) : Int := clampInt (-20000) 20000 (roundDiv (load * 10000) rating)
    let own := share r.p s.conf.rating
    let held := isl.mode = .droop ∨ r.busValid = false ∨ s.seq.state = .opening
    let pStar : Option Int := if isl.rPool = 0 then none else some (share isl.pPool isl.rPool)
    let target : Option Int := match s.seq.state, s.regulator.rampTarget with
      | .loading, some ramp => pStar.map (min (ramp + s.conf.rampStep))
      | .unloading, some ramp => some (max (ramp - s.conf.rampStep) 500)
      | .sharing, _ => pStar
      | _, _ => some own
    let eP := match target with
      | none => 0
      | some w => clampInt (-2000) 2000 (deadband 50 (w - own))
    let eQ := if isl.qrPool = 0 then 0 else
      clampInt (-2000) 2000 (deadband 100 (share isl.qPool isl.qrPool - share r.q s.conf.reactiveRating))
    let eF := clampInt (-2000) 2000 (deadband 20 ((s.conf.fNom : Int) - r.frequency))
    let eV := clampInt (-2000) 2000 (deadband 10 ((s.conf.vNom : Int) - r.voltage))
    ∃ t, exec (.meteringIntervalExpiry m) s = .next t
      ∧ (s.loader.mode ≠ .run ∨ s.seq.state.online = false → t.regulator = s.regulator ∧ t.seq = s.seq)
      ∧ (s.loader.mode = .run → s.seq.state.online = true → held → t.seq = s.seq
          ∧ t.regulator = { s.regulator with rampTarget :=
              (if (s.seq.state = .loading ∨ s.seq.state = .unloading) ∧ s.regulator.rampTarget = none then some own
              else s.regulator.rampTarget) })
      ∧ (s.loader.mode = .run → s.seq.state.online = true → ¬ held →
          t.regulator.speedBias =
            clampInt (-10000) 10000 (s.regulator.speedBias + roundDiv (s.conf.kp * eP + s.conf.kf * eF) 1024)
          ∧ t.regulator.voltBias =
            clampInt (-10000) 10000 (s.regulator.voltBias + roundDiv (s.conf.kq * eQ + s.conf.kv * eV) 1024))

/-- R64 to R67, R86, R88 to R90, R93: at a worked record in LOADING the ramp target rises by the step up to the pool's
share; on reaching it, or with an empty pool, the set enters SHARING, where a pending unload is judged by the unload
check. In UNLOADING it falls by the step down to 500; where the set's own load is at most 600 the OPEN pulse is issued,
the unload timer stops, the opening timer starts, and the set enters OPENING with its unload kind kept. An unset ramp
target takes the own load and does not step; that the set then stays in LOADING, with the pool empty or already reached,
is the model's reading (log entry 31). -/
def Obligations.RampsEndInSharingAndOpening : Prop :=
  ∀ (s : State) (m : Measurement) (d : Nat), s.Delivers m d → s.loader.mode = .run →
    let r := formRecord m s.conf.vNom
    let isl := s.foundBy m d
    isl.mode = .isoch → r.busValid = true →
    let own := clampInt (-20000) 20000 (roundDiv (r.p * 10000) s.conf.rating)
    let share := clampInt (-20000) 20000 (roundDiv (isl.pPool * 10000) isl.rPool)
    let passes := 2 ≤ isl.online ∧ 100 * isl.pLoad ≤ 95 * ((isl.rCap : Int) - s.conf.rating)
    ∃ t, exec (.meteringIntervalExpiry m) s = .next t
      ∧ (s.seq.state = .loading → s.regulator.rampTarget = none →
          t.seq = s.seq ∧ t.regulator.rampTarget = some own)
      ∧ (∀ ramp, s.seq.state = .loading → s.regulator.rampTarget = some ramp →
          (isl.rPool ≠ 0 → ramp + s.conf.rampStep < share →
            t.seq = s.seq ∧ t.regulator.rampTarget = some (ramp + s.conf.rampStep))
          ∧ (isl.rPool = 0 ∨ share ≤ ramp + s.conf.rampStep → s.seq.pendingUnload = false →
            t.seq = { s.seq with state := .sharing } ∧ t.regulator.rampTarget = none)
          ∧ (isl.rPool = 0 ∨ share ≤ ramp + s.conf.rampStep → s.seq.pendingUnload = true → passes →
            t.seq = { s.seq with state := .unloading, pendingUnload := false, unloadKind := .manual
                                 unloadTimer := some (t.now + 60000000) }
            ∧ t.regulator.rampTarget = some own)
          ∧ (isl.rPool = 0 ∨ share ≤ ramp + s.conf.rampStep → s.seq.pendingUnload = true → ¬ passes →
            t.seq = { s.seq with state := .sharing, pendingUnload := false } ∧ .unloadRefused ∈ t.alarms.latched))
      ∧ (s.seq.state = .unloading → 600 < own → t.seq = s.seq
          ∧ t.regulator.rampTarget = some (match s.regulator.rampTarget with
              | none => own
              | some ramp => max (ramp - s.conf.rampStep) 500))
      ∧ (s.seq.state = .unloading → own ≤ 600 →
          t.seq = { s.seq with state := .opening, openPulse := some (t.now + 200000), unloadTimer := none
                               openingTimer := some (t.now + 2000000) }
          ∧ t.regulator.rampTarget = none)

/-- R132 to R134: at a record of a card in RUN whose island has capacity each stage counter rises where its condition
holds and is 0 otherwise; a counter at its limit clears all three and requests a slow step, which begins at once or is
held behind the one in flight. In any other case all three are 0. Two things are the model's readings: the counters read
the quantities as the record found them, before a notice of the regulator moves the set (log entry 19), and a TRIP pulse
that still runs starts afresh at a shed (log entry 18). -/
def Obligations.StageCountersStepWithTheRecord : Prop :=
  ∀ (s : State) (m : Measurement) (d : Nat), s.Delivers m d →
    let r := formRecord m s.conf.vNom
    let isl := s.foundBy m d
    let a := if (isl.rCap : Int) ≤ isl.pLoad then s.ladder.stageA + 1 else 0
    let b := if 11 * (isl.rCap : Int) ≤ 10 * isl.pLoad then s.ladder.stageB + 1 else 0
    let f := if r.busValid = true ∧ 100 * r.frequency ≤ 97 * s.conf.fNom then s.ladder.stageF + 1 else 0
    let works := s.loader.mode = .run ∧ 0 < isl.rCap
    let limit := 100 ≤ a ∨ 20 ≤ b ∨ 10 ≤ f
    let first := s.ladder.entries.find? (fun e => decide (e.state = .connected ∧ e.key ∉ s.ladder.skip))
    ∃ t, exec (.meteringIntervalExpiry m) s = .next t
      ∧ (works → ¬ limit → t.groups = s.groups ∧ t.ladder = { s.ladder with
          stageA := a, stageB := b, stageF := f, entries := t.ladder.entries })
      ∧ (¬ works → t.groups = s.groups ∧ t.ladder = { s.ladder with
          stageA := 0, stageB := 0, stageF := 0, entries := t.ladder.entries })
      ∧ (works → limit → t.ladder.stageA = 0 ∧ t.ladder.stageB = 0 ∧ t.ladder.stageF = 0)
      ∧ (works → limit → s.ladder.inFlight = none → s.SlowStep t first ∧ t.ladder.held = s.ladder.held)
      ∧ (works → limit → s.ladder.inFlight ≠ none → t.groups = s.groups ∧ t.ladder = { s.ladder with
          stageA := 0, stageB := 0, stageF := 0, held := true, entries := t.ladder.entries })

/-! ### The own set (Section 5) -/

/-- R83, R85, R64, R73, R76, R15, R16: a BREAKER closing edge brings a set that is not online into LOADING, ends a
start in progress, and sets the ramp target from the own P in RUN; an online set stays as it is. In RUN the change is
an urgent request, composed at once with the spacing timer stopped (log entry 7). -/
def Obligations.BreakerClosingLoadsTheSet : Prop :=
  ∀ s : State, s.Awake → s.pins.breaker = false →
    let b : State := { s with pins := { s.pins with breaker := true } }
    ∃ t, exec .breakerCloseEdge s = .next t
      ∧ (s.seq.state.online = false → s.Followed { b with
          seq := { s.seq with state := .loading, startTimer := none, closePermit := false }
          regulator := { s.regulator with rampTarget := (if s.loader.mode = .run then
            some (clampInt (-20000) 20000 (roundDiv (s.island.ownP * 10000) s.conf.rating)) else none) } } t)
      ∧ (s.seq.state.online = true → s.Followed b t)

/-- R87, R73, R76, R15 to R17, R89, R94, R98, R138: a BREAKER opening edge trips a set in LOADING, SHARING or
UNLOADING, with both biases at 0 and, in RUN, the trip-recent timer started. In RUN the change to TRIPPED is an urgent
request; with the spacing timer stopped it is composed before the card sheds for its own trip, so that the frame shows
the groups as they were, and a group that the block shed then moves leaves an urgent request waiting; with the timer
running one urgent request waits. In OPENING the edge completes the opening with a STOP pulse, held back while START
runs, and the set goes to STANDBY or OFF, which is an urgent request too; in any other state it moves nothing and asks
for nothing. The order of the composition and the block shed is the model's reading of the plant sequences (log entry
7). -/
def Obligations.BreakerOpeningTripsOrCompletes : Prop :=
  ∀ s : State, s.Awake → s.pins.breaker = true →
    let b : State := { s with pins := { s.pins with breaker := false } }
    let off : Regulator := { speedBias := 0, voltBias := 0, rampTarget := none }
    let tripped : State := { b with
      seq := { s.seq with state := .tripped, unloadTimer := none, pendingUnload := false, unloadKind := .none }
      regulator := off }
    ∃ t, exec .breakerOpenEdge s = .next t
      ∧ (s.seq.state ∈ [SetState.loading, .sharing, .unloading] → s.loader.mode = .run →
          let shed : Prop := ∃ i, (t.channel i).state ≠ (s.channel i).state
          State.Settles { tripped with
            duty := { s.duty with tripRecent := some (s.now + 5000000) }, groups := t.groups, ladder := t.ladder } t
          ∧ (s.composer.spacing = none → tripped.Composed t .urgent
            ∧ (shed → t.composer.waiting = some .urgent) ∧ (¬ shed → t.composer.waiting = none))
          ∧ (s.composer.spacing ≠ none → t.laneA = s.laneA ∧ t.laneB = s.laneB
            ∧ t.composer = { s.composer with waiting := some .urgent }))
      ∧ (s.seq.state ∈ [SetState.loading, .sharing, .unloading] → s.loader.mode ≠ .run → s.Followed tripped t)
      ∧ (s.seq.state = .opening → s.Followed { b with
          seq := { s.seq with
            state := (if s.pins.available then .standby else .off), openingTimer := none, unloadKind := .none
            stopHeld := s.seq.stopHeld || s.seq.startPulse.isSome
            stopPulse := (if s.seq.startPulse.isSome then s.seq.stopPulse else some (s.now + 1000000)) }
          regulator := off } t)
      ∧ (s.seq.state.online = false → s.Followed b t)

/-- R80, R82, R73, R76, R15: a RUNNING edge asserts or releases CLOSE PERMIT in STARTING, and moves nothing in any
other state. An AVAILABLE edge acts by the own set state: rising it takes OFF and TRIPPED to STANDBY, and falling it
takes STANDBY, TRIPPED, START_FAILED and STARTING to OFF, ending a start in progress. In RUN each change is an urgent
request, and an edge that changes nothing asks for nothing (log entry 7). -/
def Obligations.EngineInputsMoveTheSet : Prop :=
  ∀ (s : State) (high : Bool), s.Awake →
    (s.pins.running ≠ high → exec (.runningEdge high) s = .next { s with
      pins := { s.pins with running := high }
      seq := (if s.seq.state = .starting then { s.seq with closePermit := high } else s.seq) })
    ∧ (s.pins.available ≠ high →
      let b : State := { s with pins := { s.pins with available := high } }
      let off : Regulator := { speedBias := 0, voltBias := 0, rampTarget := none }
      ∃ t, exec (.availableEdge high) s = .next t
        ∧ (high = true → s.seq.state ∈ [SetState.off, .tripped] →
            s.Followed { b with seq := { s.seq with state := .standby }, regulator := off } t)
        ∧ (high = false → s.seq.state ∈ [SetState.standby, .tripped, .startFailed] →
            s.Followed { b with seq := { s.seq with state := .off }, regulator := off } t)
        ∧ (high = false → s.seq.state = .starting →
            s.Followed { b with
              seq := { s.seq with state := .off, startTimer := none, closePermit := false }, regulator := off } t)
        ∧ (high = true → s.seq.state ∉ [SetState.off, .tripped] → s.Followed b t)
        ∧ (high = false → s.seq.state ∉ [SetState.standby, .tripped, .startFailed, .starting] → s.Followed b t))

/-- R64, R75, R76, R15, R88 to R90: an UNLOAD rising edge. In SHARING it passes with an online count of at least 2 and
100 × P_load ≤ 95 × (R_cap − R_own), and is refused with UNLOAD_REFUSED otherwise; in LOADING it is held pending; in
UNLOADING it marks the unload MANUAL; in any other state it is ignored. A falling level is no request. At the entry to
UNLOADING in RUN the ramp target takes the own load, and the change is an urgent request; a refused or a held request
asks the composer for nothing (log entry 7). -/
def Obligations.UnloadRequestIsTaken : Prop :=
  ∀ (s : State) (high : Bool), s.Awake → s.pins.unload ≠ high →
    let b : State := { s with pins := { s.pins with unload := high } }
    let passes := 2 ≤ s.island.online ∧ 100 * s.island.pLoad ≤ 95 * ((s.island.rCap : Int) - s.conf.rating)
    ∃ t, exec (.unloadEdge high) s = .next t
      ∧ (high = true → s.seq.state = .sharing → passes → s.Followed { b with
          seq := { s.seq with state := .unloading, unloadKind := .manual, unloadTimer := some (s.now + 60000000) }
          regulator := { s.regulator with rampTarget := (if s.loader.mode = .run then
            some (clampInt (-20000) 20000 (roundDiv (s.island.ownP * 10000) s.conf.rating)) else none) } } t)
      ∧ (high = true → s.seq.state = .sharing → ¬ passes → s.Followed b t ∧ .unloadRefused ∈ t.alarms.latched)
      ∧ (high = true → s.seq.state = .loading →
          s.Followed { b with seq := { s.seq with pendingUnload := true } } t)
      ∧ (high = true → s.seq.state = .unloading →
          s.Followed { b with seq := { s.seq with unloadKind := .manual } } t)
      ∧ (high = true → s.seq.state ∉ [SetState.sharing, .loading, .unloading] → s.Followed b t)
      ∧ (high = false → t = b)

/-- R84, R92, R94, R76, R15: the start timer's expiry leads to START_FAILED with CLOSE PERMIT released; the expiry of
the unload timer or of the opening timer returns the set to SHARING. Each reports its event, and no pulse is issued;
in RUN each change is an urgent request (log entry 7). -/
def Obligations.SetTimersExpire : Prop :=
  ∀ (s : State) (d : Nat), s.Awake →
    (s.seq.state = .starting → s.seq.startTimer = some d →
      ∃ t, exec .startTimerExpiry s = .next t ∧ .startFail ∈ t.alarms.latched
        ∧ s.Followed { s.advanceTo d with
            seq := { s.seq with state := .startFailed, startTimer := none, closePermit := false }
            regulator := { speedBias := 0, voltBias := 0, rampTarget := none } } t)
    ∧ (s.seq.state = .unloading → s.seq.unloadTimer = some d →
      ∃ t, exec .unloadTimerExpiry s = .next t ∧ .unloadFail ∈ t.alarms.latched
        ∧ s.Followed { s.advanceTo d with
            seq := { s.seq with state := .sharing, unloadTimer := none, openingTimer := none, unloadKind := .none }
            regulator := { s.regulator with rampTarget := none } } t)
    ∧ (s.seq.state = .opening → s.seq.openingTimer = some d →
      ∃ t, exec .openingTimerExpiry s = .next t ∧ .openFail ∈ t.alarms.latched
        ∧ s.Followed { s.advanceTo d with
            seq := { s.seq with state := .sharing, unloadTimer := none, openingTimer := none, unloadKind := .none }
            regulator := { s.regulator with rampTarget := none } } t)

/-- R77, R116, R114: a pulse's end releases its output alone. A STOP held back begins when START ends, and a TRIP held
back when its group's CLOSE ends, with the close spacing timer started afresh. -/
def Obligations.PulsesEnd : Prop :=
  ∀ (s : State) (d : Nat), s.Awake →
    (∀ which, s.seq.pulse which = some d → exec (.setPulseEnd which) s = .next { s.advanceTo d with
      seq := { s.seq with
        startPulse := (if which = .start then none else s.seq.startPulse)
        stopPulse := (if which = .stop then none
          else if which = .start ∧ s.seq.stopHeld = true then some (max s.now d + 1000000) else s.seq.stopPulse)
        openPulse := (if which = .opening then none else s.seq.openPulse)
        stopHeld := s.seq.stopHeld && which != .start } })
    ∧ (∀ i, (s.channel i).trip = some d → exec (.groupPulseEnd i .trip) s = .next
        ((s.advanceTo d).setChannel i { s.channel i with trip := none }))
    ∧ (∀ i, (s.channel i).close = some d → (s.channel i).tripHeld = false → exec (.groupPulseEnd i .close) s = .next
        ((s.advanceTo d).setChannel i { s.channel i with close := none }))
    ∧ (∀ i, (s.channel i).close = some d → (s.channel i).tripHeld = true →
        ∃ t, exec (.groupPulseEnd i .close) s = .next t ∧ (s.advanceTo d).keepsBut t [.groups]
          ∧ t.channel i = { s.channel i with close := none, tripHeld := false, trip := some (t.now + 200000) }
          ∧ t.groups.closeSpacing = some (t.now + 10000000) ∧ ∀ j, j ≠ i → t.channel j = s.channel j)

/-! ### The duty logic (Section 6) -/

/-- R95, R97, R99 to R103, R106: an evaluation forms the four start needs and the start order from the island as it
stands, and restarts its timer. Any need keeps the stop counter at 0. Which claims are island claims says
`RequestEdgesOpenAndWithdrawAClaim`, and which set state and start rank a member has says
`NeedStartsASetOrAbortsAnUnload`. -/
def Obligations.EvaluationFormsTheNeeds : Prop :=
  ∀ (s : State) (d : Nat), s.Awake → s.duty.evaluation = some d →
    let high := 0 < s.island.rCap ∧ 85 * (s.island.rCap : Int) ≤ 100 * s.island.pLoad
    ∃ t, exec .evaluation s = .next t
      ∧ s.Followed { s.advanceTo d with duty := t.duty, seq := t.seq, regulator := t.regulator } t
      ∧ t.duty.evaluation = some (t.now + 100000) ∧ t.duty.tripRecent = s.duty.tripRecent
      ∧ (high → t.duty.startNeed = min 200 (s.duty.startNeed + 1)) ∧ (¬ high → t.duty.startNeed = 0)
      ∧ (t.duty.n1 = true ↔ t.duty.startNeed = 200)
      ∧ (t.duty.n2 = true ↔ ∃ c ∈ s.islandClaims, c.state = .waiting)
      ∧ (t.duty.n3 = true ↔ s.island.online < 2)
      ∧ (t.duty.n4 = true ↔ s.duty.tripRecent ≠ none ∧ high)
      ∧ (t.duty.n1 = true ∨ t.duty.n2 = true ∨ t.duty.n3 = true ∨ t.duty.n4 = true → t.duty.stopCounter = 0)
      ∧ (∀ i, i ∈ t.duty.startOrder ↔ i ∈ s.island.members ∧ s.memberState i = some .standby)
      ∧ t.duty.startOrder.Pairwise
          (fun i j => s.memberRank i < s.memberRank j ∨ (s.memberRank i = s.memberRank j ∧ i ≤ j))

/-- R91, R97, R102 to R104, R107, R81, R82, R76, R15: the own station is read with its set state and start rank in
use, a LIVE or STALE peer with those of its record, and any other has no set state; the members of one set state are
ordered by start rank, and by identity among equal ranks. An evaluation that finds a need returns an UNLOADING set to
SHARING. With no member STARTING and the own set in STANDBY and first in the start order it starts the set, unless its
STOP pulse runs or is held back: START is issued, the 90 s start timer starts, and RUNNING already high asserts CLOSE
PERMIT. In RUN either change is an urgent request, and an evaluation that changes no set state asks for nothing (log
entry 7). -/
def Obligations.NeedStartsASetOrAbortsAnUnload : Prop :=
  (∀ s : State,
    (s.memberState s.own = some s.seq.state ∧ s.memberRank s.own = s.conf.startRank)
    ∧ (∀ i st, i ≠ s.own → (s.memberState i = some st ↔ ((s.entry i).state = .live ∨ (s.entry i).state = .stale)
        ∧ ∃ r, (s.entry i).record = some r ∧ r.setState = st))
    ∧ (∀ i r, i ≠ s.own → (s.entry i).record = some r → s.memberRank i = r.startRank)
    ∧ ∀ st, (∀ i, i ∈ s.inOrder st ↔ i ∈ s.island.members ∧ s.memberState i = some st)
      ∧ (s.island.members.Nodup → (s.inOrder st).Nodup)
      ∧ (s.inOrder st).Pairwise
          (fun i j => s.memberRank i < s.memberRank j ∨ (s.memberRank i = s.memberRank j ∧ i ≤ j)))
  ∧ ∀ (s : State) (d : Nat), s.Awake → s.duty.evaluation = some d →
    let high := 0 < s.island.rCap ∧ 85 * (s.island.rCap : Int) ≤ 100 * s.island.pLoad
    let need := (high ∧ 199 ≤ s.duty.startNeed) ∨ (∃ c ∈ s.islandClaims, c.state = .waiting) ∨ s.island.online < 2
      ∨ (high ∧ s.duty.tripRecent ≠ none)
    let first := s.own ∈ s.island.members ∧ s.seq.state = .standby
      ∧ ∀ i ∈ s.island.members, s.memberState i = some .standby →
          s.conf.startRank < s.memberRank i ∨ (s.conf.startRank = s.memberRank i ∧ s.own ≤ i)
    let check := need ∧ (∀ i ∈ s.island.members, s.memberState i ≠ some .starting) ∧ first
    ∃ t, exec .evaluation s = .next t
      ∧ s.Followed { s.advanceTo d with duty := t.duty, seq := t.seq, regulator := t.regulator } t
      ∧ (need → s.seq.state = .unloading →
          t.seq = { s.seq with state := .sharing, unloadTimer := none, openingTimer := none, unloadKind := .none }
          ∧ t.regulator = { s.regulator with rampTarget := none })
      ∧ (check → s.seq.state = .standby → s.seq.stopPulse = none → s.seq.stopHeld = false →
          t.seq = { s.seq with state := .starting, startPulse := some (t.now + 1000000)
                               startTimer := some (t.now + 90000000), closePermit := s.pins.running })
      ∧ (s.seq.state = .standby → ¬ check ∨ s.seq.stopPulse ≠ none ∨ s.seq.stopHeld = true → t.seq = s.seq)

/-- R64, R106 to R109, R90: without a need the stop counter rises to 3,000 while the island stays lightly loaded and
quiet, and is 0 otherwise. At 3,000 the SHARING member last by start rank, and by identity among equal ranks, with more
than two sets online and 75 % of the rest enough for the load, has its own card give the stop decision: its counter
clears and the set unloads as AUTOMATIC, its ramp target at the own load in RUN. Which set state and start rank a member
has says `NeedStartsASetOrAbortsAnUnload`. -/
def Obligations.EvaluationStopsTheLastSet : Prop :=
  ∀ (s : State) (d : Nat), s.Awake → s.duty.evaluation = some d → 2 ≤ s.island.online →
    ¬ (0 < s.island.rCap ∧ 85 * (s.island.rCap : Int) ≤ 100 * s.island.pLoad) →
    let quiet := 100 * s.island.pLoad ≤ 40 * (s.island.rCap : Int)
      ∧ (∀ i ∈ s.island.members,
          s.memberState i ∉ [some SetState.starting, some .loading, some .unloading, some .opening])
      ∧ s.islandClaims = []
    let last := s.own ∈ s.island.members ∧ s.seq.state = .sharing
      ∧ ∀ i ∈ s.island.members, s.memberState i = some .sharing →
          s.memberRank i < s.conf.startRank ∨ (s.memberRank i = s.conf.startRank ∧ i ≤ s.own)
    let check := last ∧ 2 < s.island.online
      ∧ 100 * s.island.pLoad ≤ 75 * ((s.island.rCap : Int) - s.conf.rating)
    ∃ t, exec .evaluation s = .next t
      ∧ (¬ quiet → t.duty.stopCounter = 0)
      ∧ (quiet → s.duty.stopCounter < 2999 → t.duty.stopCounter = s.duty.stopCounter + 1 ∧ t.seq = s.seq)
      ∧ (quiet → 2999 ≤ s.duty.stopCounter → ¬ check → t.duty.stopCounter = 3000 ∧ t.seq = s.seq)
      ∧ (quiet → 2999 ≤ s.duty.stopCounter → check → t.duty.stopCounter = 0
          ∧ t.seq = { s.seq with state := .unloading, unloadKind := .automatic
                                 unloadTimer := some (t.now + 60000000) }
          ∧ t.regulator = { s.regulator with rampTarget := (if s.loader.mode = .run then
            some (clampInt (-20000) 20000 (roundDiv (s.island.ownP * 10000) s.conf.rating)) else none) })

/-! ### Shed groups (Section 7) -/

/-- R111, R113, R115, R117, R118, R121, R15: a feedback edge by the group's state. In INHIBITED it is latched; in any
other state it is taken at once, both marks are cleared, and a confirmed command's window stops. A command unconfirmed
at its window's end leaves the group FAILED with that command, and GROUP_FAIL is reported. In RUN a change of the
group's state is an urgent request, and an edge that changes no state asks for nothing (log entry 7). -/
def Obligations.FeedbackMovesTheGroup : Prop :=
  ∀ (s : State) (i : Fin 6), s.Awake →
    let c := s.channel i
    (∀ closed st, s.pins.feedback[i] ≠ closed → c.state = some st →
      let b : State := { s with pins := { s.pins with feedback := s.pins.feedback.set i closed } }
      ∃ t, exec (.feedbackEdge i closed) s = .next t
        ∧ (st = .inhibited → s.Followed (b.setChannel i { c with
            openingSeen := c.openingSeen || !closed, closingSeen := c.closingSeen || closed }) t)
        ∧ (st ≠ .inhibited → ∃ next, s.Followed (b.setChannel i { c with
            state := some next, openingSeen := false, closingSeen := false
            window := (if next = st then c.window else none) }) t
          ∧ (closed = false → st = .shedPending ∨ st = .failed .shed → next = .shed)
          ∧ (closed = false → st = .connected ∨ st = .failed .restore → next = .openExternal)
          ∧ (closed = false → st = .shed ∨ st = .restorePending ∨ st = .openExternal → next = st)
          ∧ (closed = true → st = .shedPending → next = .shedPending)
          ∧ (closed = true → st ≠ .shedPending → next = .connected)))
    ∧ (∀ d command, c.window = some d →
      c.state = some (match command with | .shed => .shedPending | .restore => .restorePending) →
      ∃ t, exec (.confirmationWindowExpiry i) s = .next t ∧ .groupFail ∈ t.alarms.latched
        ∧ s.Followed ((s.advanceTo d).setChannel i { c with state := some (.failed command), window := none }) t)

/-- R31, R98, R114, R130, R147: the timers whose expiry moves nothing but their own block: a lane drops out of an
entry's lanes heard, the trip-recent timer and the close spacing timer stop, and the two ages rise by 1 up to 255 as
their timers restart. -/
def Obligations.PlainTimersExpire : Prop :=
  ∀ (s : State) (d : Nat), s.Awake →
    (∀ i, (s.entry i).heardA = some d → exec (.lanesHeardExpiry i .a) s =
      .next ((s.advanceTo d).setEntry i { s.entry i with heardA := none }))
    ∧ (∀ i, (s.entry i).heardB = some d → exec (.lanesHeardExpiry i .b) s =
      .next ((s.advanceTo d).setEntry i { s.entry i with heardB := none }))
    ∧ (s.duty.tripRecent = some d → exec .tripRecentTimerExpiry s =
      .next { s.advanceTo d with duty := { s.duty with tripRecent := none } })
    ∧ (s.groups.closeSpacing = some d → exec .closeSpacingExpiry s =
      .next { s.advanceTo d with groups := { s.groups with closeSpacing := none } })
    ∧ (s.ladder.ageTimer = some d → exec .actionAgeTick s =
      .next { s.advanceTo d with ladder := { s.ladder with actionAge := min 255 (s.ladder.actionAge + 1)
                                                           ageTimer := some (max s.now d + 100000) } })
    ∧ (∀ n, (s.claim n).ageTimer = some d → exec (.claimAgeTick n) s =
      .next ((s.advanceTo d).setClaim n { s.claim n with age := min 255 ((s.claim n).age + 1)
                                                         ageTimer := some (max s.now d + 100000) }))

/-! ### The shed ladder (Section 8) -/

/-- R136, R134, R128, R133, R143: a hand-off timer's expiry puts the key into the skip set, and the step continues at
once on the first eligible entry. Where it ends there, on an own entry or on none, a request held behind it is cleared,
and its new step begins at once on the first eligible entry of the ladder as the first step left it. A ladder that is up
to date is one that every step keeps (`StepKeepsWhatFollows`). That a TRIP pulse that still runs starts afresh at a shed
is the model's reading (log entry 18). -/
def Obligations.HandOffExpirySkipsAndContinues : Prop :=
  ∀ (s : State) (d : Nat) (k : Key), s.Awake → s.ladder.handOff = some d → s.ladder.inFlight = some k →
    let skip := if k ∈ s.ladder.skip then s.ladder.skip else s.ladder.skip ++ [k]
    let first := s.ladder.entries.find? (fun e => decide (e.state = .connected ∧ e.key ∉ skip))
    ∃ t, exec .handoffTimerExpiry s = .next t ∧ t.ladder.skip = skip
      ∧ s.Followed { s.advanceTo d with groups := t.groups, ladder := t.ladder } t
      ∧ (s.ladder.held = false → s.SlowStep t first ∧ t.ladder.held = false)
      ∧ (∀ e, first = some e → e.owner ≠ .own → s.SlowStep t first ∧ t.ladder.held = s.ladder.held)
      ∧ ((∀ e, first = some e → e.owner = .own) → t.ladder.held = false
        ∧ (s.ladder.held = true → s.LadderCurrent →
          ∃ u, (s.advanceTo d).keepsBut u [.groups, .ladder, .composer, .alarms] ∧ u.ladder.skip = skip
            ∧ u.ladder.entries = u.ladderOf ∧ (s.advanceTo d).SlowStep u first
            ∧ u.SlowStep t (u.ladder.entries.find? (fun e => decide (e.state = .connected ∧ e.key ∉ skip)))))

/-- R137 to R140, R87, R112: the walk of a block shed chooses, from the front, a run of the eligible entries; it stops
at the first that brings the sum to D or more, and where even all of them stay below D it has chosen every one. The own
trip of a card in RUN sheds at once. Where the deficit, of the others' load with the own last P, less relief and the
others' capacity, is above 0, every CONNECTED own group that the walk chooses is SHED_PENDING, and no other group moves;
nothing is shed where it is not. That a TRIP pulse that still runs starts afresh
is the model's reading (log entry 18). -/
def Obligations.OwnTripShedsTheChosenGroups : Prop :=
  (∀ (l : Ladder) (d : Int), 0 < d →
    let eligible := l.entries.filter (fun e => decide (e.state = .connected ∧ e.key ∉ l.skip))
    let chosen := walk l d l.entries
    chosen <+: eligible ∧ (chosen = eligible ∨ d ≤ chosenSum chosen)
      ∧ (∀ shorter e, chosen = shorter ++ [e] → chosenSum shorter < d))
  ∧ ∀ s : State, s.Awake → s.IslandSafe → s.loader.mode = .run → s.pins.breaker = true →
    s.seq.state ∈ [SetState.loading, .sharing, .unloading] →
    ∃ t, exec .breakerOpenEdge s = .next t ∧ s.BlockShed t s.own s.island.ownP

/-- R131, R141, R142, R114, R143: the island action age is the least of the own age and those that LIVE and STALE
members report. A restore check that passes its six guards restores the last SHED entry of an own or LIVE owner, where
it is own and the island's load with it stays within 85 % of capacity; the channel takes the command only while the
close spacing timer is stopped. A check that fails a guard restores nothing. That the guard on STARTING and LOADING
looks at no PHANTOM member is the model's reading (log entry 16). Which set state a member has says
`NeedStartsASetOrAbortsAnUnload`, and which claims are island claims says `RequestEdgesOpenAndWithdrawAClaim`. -/
def Obligations.RestoreCheckRestoresTheLast : Prop :=
  ∀ (s : State) (d : Nat), s.Awake → s.ladder.restoreTimer = some d →
    let pass := s.ladder.stageA = 0 ∧ s.ladder.stageB = 0 ∧ s.ladder.stageF = 0 ∧ s.ladder.inFlight = none
      ∧ 100 ≤ s.islandActionAge
      ∧ (∀ i ∈ s.island.members, s.memberState i ≠ some .starting ∧ s.memberState i ≠ some .loading)
      ∧ (∀ c ∈ s.islandClaims, c.state ≠ .claiming ∧ c.state ≠ .waiting) ∧ 0 < s.island.rCap
    let candidate := s.ladder.entries.reverse.find? (fun e => decide (e.state = .shed ∧ e.owner ≠ .stale))
    let fits (e : LadderEntry) := (s.island.pLoad + e.nominal) * 10000 ≤ 8500 * (s.island.rCap : Int)
    IsLeast {a | a = s.ladder.actionAge ∨ ∃ i r, i ∈ s.island.members ∧ i ≠ s.own
        ∧ ((s.entry i).state = .live ∨ (s.entry i).state = .stale) ∧ (s.entry i).record = some r ∧ a = r.actionAge}
      s.islandActionAge
    ∧ ∃ t, exec .restoreCheck s = .next t
      ∧ s.Followed { s.advanceTo d with groups := t.groups, ladder := t.ladder } t
      ∧ t.ladder.restoreTimer = some (t.now + 1000000) ∧ t.ladder.islandAge = s.islandActionAge
      ∧ (¬ pass → t.ladder.candidate = none)
      ∧ (pass → t.ladder.failedGuards = [] ∧ t.ladder.candidate = candidate.map LadderEntry.key)
      ∧ (∀ e, pass → candidate = some e → e.owner = .own → fits e →
          t.ladder.actionAge = 0 ∧ t.ladder.ageTimer = some (t.now + 100000)
          ∧ (∀ j, j ≠ e.index → t.channel j = s.channel j)
          ∧ ((s.channel e.index).state = some .shed → s.groups.closeSpacing = none →
              t.channel e.index = { s.channel e.index with
                state := some .restorePending, window := some (t.now + 500000), close := some (t.now + 200000) }
              ∧ t.groups.closeSpacing = some (t.now + 10000000))
          ∧ ((s.channel e.index).state ≠ some .shed ∨ s.groups.closeSpacing ≠ none → t.groups = s.groups))
      ∧ (¬ pass ∨ (∀ e, candidate = some e → e.owner ≠ .own ∨ ¬ fits e) →
          t.groups = s.groups ∧ t.ladder.actionAge = s.ladder.actionAge)

/-! ### Heavy consumers (Section 9) -/

/-- R148 to R152, R147, R157, R15: the island claims are the own ones in CLAIMING, GRANTED or WAITING and those that
the record of a LIVE or STALE member lists, none of them twice; a GRANTED claim stands ahead of the others, and then
come the greater age, the lower identity and the lower index; and a claim fits where the headroom holds its demand and
those of the CLAIMING and GRANTED claims ahead of it. A REQUEST rising edge in RUN opens an IDLE claim at age 0: into
CLAIMING with a 300 ms window where LINK_OK is true and the headroom holds its demand with those ahead of it, and into
WAITING with a 120 s timer otherwise. A falling edge returns the claim to IDLE from any state, with GRANT open, the
out-of-time mark clear, the age 0 and every timer stopped. The opening is an urgent request, and so is a withdrawal
out of CLAIMING, GRANTED or WAITING; one out of CONSUMING or REFUSED asks the composer for nothing (log entry 7). -/
def Obligations.RequestEdgesOpenAndWithdrawAClaim : Prop :=
  let needed (s : State) (c : IslandClaim) : Nat := c.demand + ((s.islandClaims.filter (fun d =>
      decide (¬ (d.station = c.station ∧ d.index = c.index) ∧ d.state ≠ .waiting) && d.ahead c)).map (·.demand)).sum
  let headroom (s : State) : Int := ((s.island.rCap * 9 / 10 : Nat) : Int) - s.island.pLoad
  (∀ s : State,
    let isOwn (n : Fin 2) (c : IslandClaim) : Prop :=
      c.station = s.own ∧ c.index = n ∧ s.demand n = some c.demand ∧ c.age = (s.claim n).age
      ∧ (((s.claim n).state = .claiming ∧ c.state = .claiming) ∨ ((s.claim n).state = .granted ∧ c.state = .granted)
        ∨ ((s.claim n).state = .waiting ∧ c.state = .waiting))
    (∀ n c, s.ownIslandClaim n = some c ↔ isOwn n c)
    ∧ (∀ c, c ∈ s.islandClaims ↔ (∃ n, isOwn n c) ∨ ∃ r, c.station ∈ s.island.members ∧ c.station ≠ s.own
        ∧ ((s.entry c.station).state = .live ∨ (s.entry c.station).state = .stale)
        ∧ (s.entry c.station).record = some r
        ∧ { index := c.index, demand := c.demand, state := c.state, age := c.age } ∈ r.claims)
    ∧ (s.TableSafe → s.island.members.Nodup → (s.islandClaims.map (fun c => (c.station, c.index))).Nodup)
    ∧ s.headroomNow = headroom s
    ∧ ∀ c, s.needed c = needed s c ∧ (s.fits c = true ↔ (needed s c : Int) ≤ headroom s))
  ∧ (∀ a b : IslandClaim, a.ahead b = true ↔ (a.state = .granted ∧ b.state ≠ .granted)
      ∨ ((a.state = .granted ↔ b.state = .granted) ∧ (b.age < a.age ∨ (b.age = a.age
        ∧ (a.station < b.station ∨ (a.station = b.station ∧ a.index < b.index))))))
  ∧ ∀ (s : State) (n : Fin 2) (w : Nat), s.Awake → s.demand n = some w →
    let idle : Claim := { state := .idle, age := 0, ageTimer := none, window := none, waiting := none
                          outOfTime := false, hold := none, grant := false }
    let own : IslandClaim := { station := s.own, index := n, state := .claiming, demand := w, age := 0 }
    let fits := (needed s own : Int) ≤ headroom s
    let others (t : State) := t.admission.retest = s.admission.retest ∧ ∀ k, k ≠ n → t.claim k = s.claim k
    (s.loader.mode = .run → s.pins.request[n] = false → s.claim n = idle →
      ∃ t, exec (.requestRising n) s = .next t ∧ others t
        ∧ s.Followed { s with
            pins := { s.pins with request := s.pins.request.set n true }, admission := t.admission } t
        ∧ (s.linkOk = true → fits → t.claim n = { idle with
            state := .claiming, ageTimer := some (s.now + 100000), window := some (s.now + 300000) })
        ∧ (s.linkOk = false ∨ ¬ fits → t.claim n = { idle with
            state := .waiting, ageTimer := some (s.now + 100000), waiting := some (s.now + 120000000) }))
    ∧ (s.pins.request[n] = true →
      ∃ t, exec (.requestFalling n) s = .next t ∧ others t ∧ t.claim n = idle
        ∧ s.Followed { s with
            pins := { s.pins with request := s.pins.request.set n false }, admission := t.admission } t)

/-- R153, R155, R156, R158, R15: at the end of its window a claim that fits with LINK_OK true is GRANTED, its GRANT
closed and its 30 s hold timer started; otherwise it waits, its waiting timer running on or started, or is REFUSED
where its out-of-time mark is set. At 120 s a WAITING claim is REFUSED and a CLAIMING one gets its out-of-time mark.
At the hold timer's expiry a GRANTED claim is CONSUMING, its GRANT as it was. When a claim fits says
`RequestEdgesOpenAndWithdrawAClaim`. In RUN each change of state is an urgent
request; the out-of-time mark alone asks for nothing (log entry 7). That the out-of-time mark clears as the claim
leaves its window is the model's reading of R153 (log entry 24). -/
def Obligations.ClaimTimersJudgeTheClaim : Prop :=
  ∀ (s : State) (n : Fin 2) (d : Nat), s.Awake →
    let c := s.claim n
    let becomes (t : State) (x : Claim) : Prop := t.claim n = x ∧ (∀ k, k ≠ n → t.claim k = s.claim k)
      ∧ t.admission.retest = s.admission.retest ∧ s.Followed { s.advanceTo d with admission := t.admission } t
    (∀ own, c.state = .claiming → c.window = some d → s.ownIslandClaim n = some own →
      let passes := s.linkOk = true ∧ s.fits own = true
      ∃ t, exec (.claimWindowExpiry n) s = .next t
        ∧ (passes → becomes t { c with
            state := .granted, window := none, waiting := none, outOfTime := false, hold := some (t.now + 30000000)
            grant := true })
        ∧ (¬ passes → c.outOfTime = false → becomes t { c with state := .waiting, window := none, waiting :=
            (if c.waiting = none then some (t.now + 120000000) else c.waiting) })
        ∧ (¬ passes → c.outOfTime = true → .claimRefused ∈ t.alarms.latched
          ∧ becomes t { c with state := .refused, window := none, waiting := none, outOfTime := false }))
    ∧ (c.waiting = some d →
      ∃ t, exec (.waitingTimerExpiry n) s = .next t
        ∧ (c.state = .waiting → .claimRefused ∈ t.alarms.latched
          ∧ becomes t { c with state := .refused, window := none, waiting := none, outOfTime := false })
        ∧ (c.state = .claiming → becomes t { c with waiting := none, outOfTime := true }))
    ∧ (c.state = .granted → c.hold = some d →
      ∃ t, exec (.holdTimerExpiry n) s = .next t ∧ becomes t { c with state := .consuming, hold := none })

/-- R154, R159, R15: a re-test takes the own claims in WAITING in precedence order. The first moves to CLAIMING with a
new window where LINK_OK is true and it fits, its age and its waiting timer running on; the second is then tested
against a headroom that must hold the first one's demand too where that moved. A claim in any other state stays as it
is. What precedence is and when a claim fits says `RequestEdgesOpenAndWithdrawAClaim`. In RUN a claim that moves makes
an urgent request, and a re-test that moves none makes none (log entry 7). -/
def Obligations.RetestTakesTheWaitingInOrder : Prop :=
  ∀ (s : State) (n k : Fin 2) (d : Nat) (c : IslandClaim), s.Awake → s.admission.retest = some d → k ≠ n →
    s.ownIslandClaim n = some c → c.state = .waiting →
    let taken : Nat := match s.ownIslandClaim k with
      | some a => if a.state = .waiting ∧ a.ahead c = true ∧ s.fits a = true then a.demand else 0
      | none => 0
    let moves := s.linkOk = true ∧ ((s.needed c + taken : Nat) : Int) ≤ s.headroomNow
    ∃ t, exec .retestTimerExpiry s = .next t ∧ t.admission.retest = some (t.now + 100000)
      ∧ s.Followed { s.advanceTo d with admission := t.admission } t
      ∧ ((s.claim k).state ≠ .waiting → t.claim k = s.claim k)
      ∧ (moves → t.claim n = { s.claim n with state := .claiming, window := some (t.now + 300000) })
      ∧ (¬ moves → t.claim n = s.claim n)

/-! ### The service port (Section 11) -/

/-- R172, R174, R176, R177, R180: a request that only reads, taken by an IDLE port, is answered OK from the state as
it stands; the port is RESPONDING with its gap timer stopped, and no other block changes. PEER of an identity outside
1 to 8 is rejected with BAD_ARGUMENT, and a request of bad form with BAD_REQUEST under the kind it carries. Every
response begins with 0x9A, carries its own length in bytes 1 and 2 and its kind in byte 3, and its bytes sum to 0
modulo 256. COUNTERS sends the 14 counters in their order, two bytes each, most significant byte first; ALARMS sends
for each of the 18 kinds in their order whether it is active and whether it is latched, and then the relay, whose byte
is 1 while it is energised by the model's choice (log entry 35). The other payloads stand here under the model's
names: their bytes are its reading of R176 (log entry 20). That a request of an unknown kind is answered under that
number is its reading too (log entry 21). -/
def Obligations.ReadingRequestsChangeNothing : Prop :=
  (∀ (kind : Nat) (r : Reply), (∀ p, r = .ok p → p.length < 65000) →
    let bs := responseBytes kind r
    byteSum bs = 0 ∧ bs.getD 0 0 = 0x9A ∧ word16 (bs.getD 1 0) (bs.getD 2 0) = bs.length ∧ bs.getD 3 0 = byteOf kind)
  ∧ ∀ s : State, s.Awake → s.service.state = .idle →
    let answered (kind : Nat) (r : Reply) : State := { s with
      service := { s.service with state := .responding, bytes := [], gap := none, response := responseBytes kind r } }
    exec .status s = .next (answered 1 (.ok s.statusPayload))
      ∧ (∀ i : Station, exec (.peer (byteOf i.num)) s = .next (answered 2 (.ok (s.peerPayload i))))
      ∧ (∀ b : Byte, b.toNat = 0 ∨ 8 < b.toNat → exec (.peer b) s = .next (answered 2 (.reject .badArgument)))
      ∧ exec .ladder s = .next (answered 3 (.ok s.ladderPayload))
      ∧ exec .claims s = .next (answered 4 (.ok s.claimsPayload))
      ∧ exec .groups s = .next (answered 5 (.ok s.groupsPayload))
      ∧ exec .alarms s = .next (answered 6 (.ok s.alarmsPayload))
      ∧ exec .counters s = .next (answered 7 (.ok s.countersPayload))
      ∧ (∀ bytes, (Instr.badRequest bytes).wellFormed = true →
          exec (.badRequest bytes) s = .next (answered (bytes.getD 2 0).toNat (.reject .badRequest)))
      ∧ s.countersPayload =
          [ s.laneA.goodFrames, s.laneA.checkErrors, s.laneA.collisions, s.laneA.collisionDrops, s.laneA.replaced
          , s.laneB.goodFrames, s.laneB.checkErrors, s.laneB.collisions, s.laneB.collisionDrops, s.laneB.replaced
          , s.rx.overruns, s.peers.lateFrames, s.peers.dualCopies, s.service.overruns
          ].flatMap (fun n => [BitVec.ofNat 8 (n / 256), BitVec.ofNat 8 n])
      ∧ s.alarmsPayload =
          [ AlarmKind.laneA, .laneB, .laneADriver, .laneBDriver, .link, .dupId, .tieDisagree, .phantom, .meterFail
          , .config, .startFail, .openFail, .unloadFail, .unloadRefused, .shedExhausted, .groupFail, .claimRefused
          , .rxOverrun
          ].flatMap (fun k => [if s.active k = true then 1 else 0, if k ∈ s.alarms.latched then 1 else 0])
          ++ [if s.alarms.relay = true then 1 else 0]

/-- R179, R180, R36, R37, R24, R128, R133, R135: CLEAR_ALARMS clears the latch of every kind that is not active and of
no other, and the relay follows at once; that its response lists the remaining places in ascending order is the
model's choice (log entry 35). CLEAR_COUNTERS sets the 14 counters and the two of every entry to 0, and touches no
latch and no error window count. CLEAR_PHANTOM empties a PHANTOM entry but for its counters, which the ladder takes
up, and is rejected with NOT_PHANTOM for an entry in another state and with BAD_ARGUMENT for an identity outside 1 to
8. That a TRIP pulse that still runs starts afresh in a slow step so begun is the model's reading (log entry 18). -/
def Obligations.ClearingRequestsClearTheirMatter : Prop :=
  ∀ s : State, s.Awake → s.service.state = .idle →
    let zero (l : LaneIf) : LaneIf :=
      { l with goodFrames := 0, checkErrors := 0, collisions := 0, collisionDrops := 0, replaced := 0 }
    (∃ t, exec .clearAlarms s = .next t
      ∧ (∀ k, k ∈ t.alarms.latched ↔ k ∈ s.alarms.latched ∧ s.active k = true)
      ∧ (t.alarms.relay = true ↔ t.alarms.latched = [])
      ∧ (t.alarms.latched.map AlarmKind.place).Pairwise (· < ·)
      ∧ t = State.respond { s with alarms := t.alarms } 8
          (.ok (listBytes t.alarms.latched (fun k => [byteOf k.place]))))
    ∧ (∃ t, exec .clearCounters s = .next t ∧ t.counters = List.replicate 14 0
      ∧ (∀ i, t.entry i = { s.entry i with lateFrames := 0, dualCopies := 0 })
      ∧ t = State.respond { s with
          laneA := zero s.laneA, laneB := zero s.laneB, rx := { s.rx with overruns := 0 }, peers := t.peers
          service := { s.service with overruns := 0 } } 9 (.ok []))
    ∧ (∀ i : Station, (s.entry i).state = .phantom →
      let cleared := s.setEntry i (PeerEntry.empty (s.entry i).lateFrames (s.entry i).dualCopies)
      ∃ t, exec (.clearPhantom (byteOf i.num)) s = .next t
        ∧ s.Followed { cleared.respond 10 (.ok []) with groups := t.groups, ladder := t.ladder } t
        ∧ s.LadderSpread cleared t)
    ∧ (∀ i : Station, (s.entry i).state ≠ .phantom →
      exec (.clearPhantom (byteOf i.num)) s = .next (s.respond 10 (.reject .notPhantom)))
    ∧ (∀ b : Byte, b.toNat = 0 ∨ 8 < b.toNat →
      exec (.clearPhantom b) s = .next (s.respond 10 (.reject .badArgument)))

/-- R119 to R121, R15: INHIBIT moves a group that is not pending to INHIBITED with both marks cleared, and is rejected
with GROUP_BUSY for a pending one; ENABLE sets an INHIBITED group from its feedback level with both marks discarded; a
group that already stands as asked stays; either is rejected with BAD_ARGUMENT for a channel that does not exist or is
not configured. In RUN a change of the group's state is an urgent request, composed at once with the spacing timer
stopped (log entry 7). -/
def Obligations.InhibitAndEnableWorkTheGroup : Prop :=
  ∀ s : State, s.Awake → s.service.state = .idle →
    (∀ (i : Fin 6) (st : GroupState), (s.channel i).state = some st →
      let c : Channel := { s.channel i with openingSeen := false, closingSeen := false }
      (st ≠ .shedPending → st ≠ .restorePending → st ≠ .inhibited →
        ∃ t, exec (.inhibit (byteOf i.val)) s = .next t
          ∧ s.Followed ((s.setChannel i { c with state := some .inhibited }).respond 11 (.ok [])) t)
      ∧ (st = .shedPending ∨ st = .restorePending →
          exec (.inhibit (byteOf i.val)) s = .next (s.respond 11 (.reject .groupBusy)))
      ∧ (st = .inhibited → exec (.inhibit (byteOf i.val)) s = .next (s.respond 11 (.ok [])))
      ∧ (st = .inhibited →
        ∃ t, exec (.enable (byteOf i.val)) s = .next t
          ∧ s.Followed ((s.setChannel i { c with
              state := some (if s.pins.feedback[i] then .connected else .openExternal) }).respond 12 (.ok [])) t)
      ∧ (st ≠ .inhibited → exec (.enable (byteOf i.val)) s = .next (s.respond 12 (.ok []))))
    ∧ (∀ b : Byte, (∀ h : b.toNat < 6, (s.channel ⟨b.toNat, h⟩).state = none) →
      exec (.inhibit b) s = .next (s.respond 11 (.reject .badArgument))
      ∧ exec (.enable b) s = .next (s.respond 12 (.reject .badArgument)))

/-- R170, R175, R165: RESTART is accepted while the own set is OFF, STANDBY, TRIPPED or START_FAILED, and is rejected
with SET_ONLINE in every other state. When a response has been sent the port counts an overrun and enters RESYNC with
the gap timer started, or enters IDLE; with a restart in progress the card enters LOAD, or abandons the restart where
the set has come online meanwhile. -/
def Obligations.RestartWaitsForItsResponse : Prop :=
  ∀ s : State, s.Awake →
    let off := s.seq.state ∈ [SetState.off, .standby, .tripped, .startFailed]
    let ended : Service := if s.service.overrun = true then
        { s.service with state := .resync, overrun := false, gap := some (s.now + 20000), response := []
                         overruns := min 65535 (s.service.overruns + 1) }
      else { s.service with state := .idle, response := [] }
    (s.service.state = .idle → off → exec .restart s = .next
      (State.respond { s with loader := { s.loader with restartInProgress := true } } 13 (.ok [])))
    ∧ (s.service.state = .idle → ¬ off → exec .restart s = .next (s.respond 13 (.reject .setOnline)))
    ∧ (s.service.state = .responding → s.loader.restartInProgress = true → off →
        ∃ t, exec .responseSent s = .next t ∧ t.AtLoad ∧ t.now = s.now ∧ t.pins = s.pins)
    ∧ (s.service.state = .responding → s.loader.restartInProgress = false ∨ ¬ off →
        exec .responseSent s = .next { s with
          service := ended, loader := { s.loader with restartInProgress := false } })

/-- R172 to R175: a byte that does not complete a request, by the receive state. The byte that completes one in
RECEIVING has it taken: one of good form as at an IDLE port, where `ReadingRequestsChangeNothing` and the statements
after it say what it does, and one of bad form is answered REJECT, BAD_REQUEST under the kind it carries, also where
that is no kind (log entry 21). A whole request that finds its own first bytes received already is taken as at an IDLE
port, and one that finds the port RESPONDING or in RESYNC is not taken: that it comes whole, or as the bytes still to
come, is the model's choice (log entry 9). The gap timer's expiry discards a partial request, ends RESYNC in IDLE, or,
after a bad length, answers REJECT, BAD_REQUEST under kind 0. -/
def Obligations.BytesAndGapsMoveThePort : Prop :=
  ∀ s : State, s.Awake →
    let p := s.service
    let moved (q : Service) : Result := .next { s with service := q }
    let gap : Timer := some (s.now + 20000)
    let idle : State := { s with service := { p with state := .idle } }
    let requests (a : Byte) : List (Instr × List Byte) :=
      [ (.status, [4, 1]), (.peer a, [5, 2, a]), (.ladder, [4, 3]), (.claims, [4, 4]), (.groups, [4, 5])
      , (.alarms, [4, 6]), (.counters, [4, 7]), (.clearAlarms, [4, 8]), (.clearCounters, [4, 9])
      , (.clearPhantom a, [5, 10, a]), (.inhibit a, [5, 11, a]), (.enable a, [5, 12, a]), (.restart, [4, 13])]
    (∀ b : Byte,
      (p.state = .idle → b = 0x6D → exec (.serviceByteReceived b) s =
        moved { p with state := .receiving, bytes := [b], gap })
      ∧ (p.state = .idle → b ≠ 0x6D → exec (.serviceByteReceived b) s = moved { p with state := .resync, gap })
      ∧ (∀ b0, p.state = .receiving → p.bytes = [b0] → b = 4 ∨ b = 5 → exec (.serviceByteReceived b) s =
        moved { p with bytes := [b0, b], gap })
      ∧ (∀ b0, p.state = .receiving → p.bytes = [b0] → b ≠ 4 → b ≠ 5 → exec (.serviceByteReceived b) s =
        moved { p with state := .resync, bytes := [], badLength := true, gap })
      ∧ (p.state = .receiving → 2 ≤ p.bytes.length → p.bytes.length + 1 ≠ (p.bytes.getD 1 0).toNat →
        exec (.serviceByteReceived b) s = moved { p with bytes := p.bytes ++ [b], gap })
      ∧ (p.state = .resync → exec (.serviceByteReceived b) s = moved { p with gap })
      ∧ (p.state = .responding → exec (.serviceByteReceived b) s = moved { p with overrun := true }))
    ∧ (∀ (a b : Byte), ∀ x ∈ requests a, p.state = .receiving →
      (p.bytes = 0x6D :: x.2 → byteSum (p.bytes ++ [b]) = 0 → exec (.serviceByteReceived b) s = exec x.1 idle)
      ∧ (p.bytes ≠ [] → p.bytes <+: 0x6D :: x.2 → exec x.1 s = exec x.1 idle))
    ∧ (∀ b : Byte, p.state = .receiving → (Instr.badRequest (p.bytes ++ [b])).wellFormed = true →
      exec (.serviceByteReceived b) s = moved { p with state := .responding, bytes := [], gap := none
                                                       response := responseBytes (p.bytes.getD 2 0).toNat (.reject .badRequest) })
    ∧ (∀ bytes, p.state = .receiving → (Instr.badRequest bytes).wellFormed = true → p.bytes ≠ [] →
      p.bytes <+: bytes → p.bytes.length < bytes.length → exec (.badRequest bytes) s = exec (.badRequest bytes) idle)
    ∧ (∀ a : Byte, ∀ x ∈ requests a,
      (p.state = .responding → exec x.1 s = moved { p with overrun := true })
      ∧ (p.state = .resync → exec x.1 s = moved { p with gap }))
    ∧ (∀ bytes, (Instr.badRequest bytes).wellFormed = true →
      (p.state = .responding → exec (.badRequest bytes) s = moved { p with overrun := true })
      ∧ (p.state = .resync → exec (.badRequest bytes) s = moved { p with gap }))
    ∧ (∀ d, p.gap = some d →
      ∃ t, exec .serviceGapExpiry s = .next t ∧ (s.advanceTo d).keepsBut t [.service]
        ∧ (p.state = .receiving → t.service = { p with state := .idle, bytes := [], gap := none })
        ∧ (p.state = .resync → p.badLength = false → t.service = { p with state := .idle, gap := none })
        ∧ (p.state = .resync → p.badLength = true → t.service = { p with
            state := .responding, bytes := [], badLength := false, gap := none
            response := responseBytes 0 (.reject .badRequest) }))

/-! ### What every step keeps -/

/-- The invariants hold of the card right after reset. -/
def Obligations.ResetIsSafe : Prop :=
  State.reset.BiasesSafe ∧ State.reset.EngineSafe ∧ State.reset.PulsesSafe ∧ State.reset.GrantsSafe
    ∧ State.reset.TableSafe ∧ State.reset.LadderSafe ∧ State.reset.AlarmsSafe ∧ State.reset.IslandSafe
    ∧ State.reset.CountsSafe ∧ State.reset.ChannelsSafe ∧ State.reset.MarksSafe ∧ State.reset.LadderCurrent
    ∧ State.reset.ComposerSafe

/-- R72 to R74, R59, R77, R79, R82, R95, R114, R116, R158, R153: the card's outputs. The biases stay within ±10,000, and
at 0 outside RUN and with the set off the bus, and their outputs within ±3 V; START and STOP are never active together,
and CLOSE PERMIT stands for STARTING with RUNNING; no group's TRIP and CLOSE are active at the same time; and GRANT is
closed exactly while its claim is GRANTED or CONSUMING. The out-of-time mark is set only while its claim is in its
window: that it clears as the claim leaves it is the model's reading (log entry 24). -/
def Obligations.StepKeepsOutputsSafe : Prop :=
  (∀ s t : State, s.BiasesSafe → step s = .next t → t.BiasesSafe)
    ∧ (∀ s t : State, s.EngineSafe → step s = .next t → t.EngineSafe)
    ∧ (∀ s t : State, s.PulsesSafe → step s = .next t → t.PulsesSafe)
    ∧ (∀ s t : State, s.GrantsSafe → step s = .next t → t.GrantsSafe)
    ∧ ∀ s t : State, s.MarksSafe → step s = .next t → t.MarksSafe

/-- R21, R23, R24, R126: the queue holds at most 8 good frames of peers, and the own entry is EMPTY; the ladder never
holds more than 48 entries, never two of one station and group index, and is always sorted by rank, then station
identity, then group index. -/
def Obligations.StepKeepsTheTables : Prop :=
  (∀ s t : State, s.TableSafe → step s = .next t → t.TableSafe)
    ∧ ∀ s t : State, s.TableSafe → s.LadderSafe → step s = .next t → t.LadderSafe

/-- R177, R178, R14, R48, R49, R51, R126, R127: the relay follows the latches, LINK_OK the lane healths, and every
active kind is latched. Past LOAD the island view is always what a fresh recomputation gives
(`PeerContributesByItsState` says what that is); ISOCH is reached in RUN alone, and the DROOP output follows the mode.
Past LOAD the ladder is always what its sources give: every configured own group with the rank and the nominal load of
its record and the frame code of its state, and every group that the record of a LIVE or STALE member lists, as it lists
it, owned by the entry's state; and it holds no other entry. -/
def Obligations.StepKeepsWhatFollows : Prop :=
  (∀ s t : State, s.AlarmsSafe → step s = .next t → t.AlarmsSafe)
    ∧ (∀ s t : State, s.IslandSafe → step s = .next t → t.IslandSafe)
    ∧ (∀ s t : State, s.LadderCurrent → step s = .next t → t.LadderCurrent)
    ∧ ∀ s : State,
      let listed (e : LadderEntry) : Prop :=
        (e.owner = .own ∧ e.station = s.own ∧ (∃ g ∈ s.conf.groups, g.index = e.index ∧ g.rank = e.rank
            ∧ g.nominal = e.nominal) ∧ ∃ st, (s.channel e.index).state = some st ∧ st.frameCode = e.state)
        ∨ (e.station ∈ s.island.members ∧ e.station ≠ s.own
          ∧ (((s.entry e.station).state = .live ∧ e.owner = .live)
            ∨ ((s.entry e.station).state = .stale ∧ e.owner = .stale))
          ∧ ∃ r, (s.entry e.station).record = some r
            ∧ { index := e.index, rank := e.rank, nominal := e.nominal, state := e.state } ∈ r.groups)
      (∀ e, e ∈ s.ladderOf ↔ listed e)
      ∧ (s.LadderCurrent → s.ChannelsSafe → s.loader.mode ≠ .load →
          (∀ e, e ∈ s.ladder.entries ↔ listed e)
          ∧ ∀ g ∈ s.conf.groups, ∃ e ∈ s.ladder.entries,
              e.owner = .own ∧ e.station = s.own ∧ e.index = g.index ∧ e.rank = g.rank ∧ e.nominal = g.nominal)

/-- R180, R37, R12, R99, R106, R130, R147: every counter and every age keeps its limit. R110, R112 to R116: a channel
without a record drives nothing, past LOAD one with a record holds a group state (R124), and a confirmation window
runs exactly while a command is pending. R164, R17, R18, R55: past LOAD the configuration in use is the one formed
from what was read, and the next frame number, the values last sent and the latest record lie within the ranges of the
frame. -/
def Obligations.StepKeepsCountsAndChannels : Prop :=
  (∀ s t : State, s.CountsSafe → step s = .next t → t.CountsSafe)
    ∧ (∀ s t : State, s.ChannelsSafe → step s = .next t → t.ChannelsSafe)
    ∧ ∀ s t : State, s.ComposerSafe → step s = .next t → t.ComposerSafe
end

