-- ==== Sys2Proof/Laws/Frames.lean ====
section
/-! SUPPORT. For each shared operation, which blocks of the card it can touch; every other block stays as it was. -/

namespace Sys2Proof.Machine

/-! ### Working with frames -/

theorem State.keepsBut.refl (s : State) (bs : List Block) : s.keepsBut s bs := by
  intro b _; cases b <;> rfl

theorem Block.same.trans {b : Block} {s t u : State} (h : b.same s t) (k : b.same t u) : b.same s u := by
  cases b <;> exact Eq.trans k h

theorem State.keepsBut.trans {s t u : State} {bs : List Block} (h : s.keepsBut t bs) (k : t.keepsBut u bs) :
    s.keepsBut u bs := fun b hb => (h b hb).trans (k b hb)

theorem State.keepsBut.mono {s t : State} {bs cs : List Block} (h : s.keepsBut t bs) (hs : bs ⊆ cs) :
    s.keepsBut t cs := fun b hb => h b (fun hm => hb (hs hm))

/-- A frame through a composition: each part within the same blocks. -/
theorem State.keepsBut.comp {s t u : State} {as bs cs : List Block} (h : s.keepsBut t as) (k : t.keepsBut u bs)
    (ha : as ⊆ cs := by decide) (hb : bs ⊆ cs := by decide) : s.keepsBut u cs :=
  (h.mono ha).trans (k.mono hb)

/-- A fold of operations with one frame has that frame. -/
theorem State.keepsBut.foldl {α : Type} {f : State → α → State} {bs : List Block}
    (hf : ∀ (s : State) (a : α), s.keepsBut (f s a) bs) (xs : List α) (s : State) : s.keepsBut (xs.foldl f s) bs := by
  induction xs generalizing s with
  | nil => exact .refl s bs
  | cons x xs ih => exact (hf s x).trans (ih (f s x))

/-! ### The operations -/

theorem State.setLane_frame (s : State) (l : LaneId) (x : LaneIf) : s.keepsBut (s.setLane l x) [.laneA, .laneB] := by
  cases l <;> exact fun b hb => by cases b <;> first | rfl | exact absurd (by decide) hb

theorem State.setEntry_frame (s : State) (i : Station) (e : PeerEntry) : s.keepsBut (s.setEntry i e) [.peers] :=
  fun b hb => by cases b <;> first | rfl | exact absurd (by decide) hb

theorem State.setChannel_frame (s : State) (i : Fin 6) (c : Channel) : s.keepsBut (s.setChannel i c) [.groups] :=
  fun b hb => by cases b <;> first | rfl | exact absurd (by decide) hb

theorem State.setClaim_frame (s : State) (n : Fin 2) (c : Claim) : s.keepsBut (s.setClaim n c) [.admission] :=
  fun b hb => by cases b <;> first | rfl | exact absurd (by decide) hb

theorem State.advanceTo_frame (s : State) (t : Nat) : s.keepsBut (s.advanceTo t) [.clock, .laneA, .laneB] :=
  fun b hb => by cases b <;> first | rfl | exact absurd (by decide) hb

theorem State.latchThose_frame (s : State) (p : AlarmKind → Bool) : s.keepsBut (s.latchThose p) [.alarms] :=
  fun b hb => by cases b <;> first | rfl | exact absurd (by decide) hb

theorem State.raise_frame (s : State) (k : AlarmKind) : s.keepsBut (s.raise k) [.alarms] :=
  fun b hb => by cases b <;> first | rfl | exact absurd (by decide) hb

theorem State.clearLatches_frame (s : State)  : s.keepsBut (s.clearLatches) [.alarms] :=
  fun b hb => by cases b <;> first | rfl | exact absurd (by decide) hb

theorem State.syncAlarms_frame (s : State)  : s.keepsBut (s.syncAlarms) [.linkOk, .alarms] :=
  fun b hb => by cases b <;> first | rfl | exact absurd (by decide) hb

theorem State.resolve_frame (s : State)  : s.keepsBut (s.resolve) [.island] :=
  fun b hb => by cases b <;> first | rfl | exact absurd (by decide) hb

theorem State.relist_frame (s : State)  : s.keepsBut (s.relist) [.ladder] :=
  fun b hb => by cases b <;> first | rfl | exact absurd (by decide) hb

theorem State.settle_frame (s : State) : s.keepsBut s.settle [.island, .ladder, .linkOk, .alarms] :=
  (s.resolve_frame.comp (State.relist_frame _) (cs := [.island, .ladder])).comp (State.syncAlarms_frame _)

theorem State.request_frame (s : State) (k : FrameKind) : s.keepsBut (s.request k) [.composer] := by
  unfold State.request
  split
  · exact fun b hb => by cases b <;> first | rfl | exact absurd (by decide) hb
  · exact .refl _ _

theorem State.compose_frame (s : State) (k : FrameKind) : s.keepsBut (s.compose k) [.composer, .island, .laneA, .laneB] :=
  fun b hb => by cases b <;> first | rfl | exact absurd (by decide) hb

theorem State.flush_frame (s : State)  : s.keepsBut (s.flush) [.composer, .island, .laneA, .laneB] := by
  unfold State.flush
  split
  · exact s.compose_frame _
  · exact .refl _ _

theorem State.finish_frame (s : State) : s.keepsBut s.finish followers :=
  (s.resolve_frame.comp s.resolve.flush_frame (cs := [.composer, .island, .laneA, .laneB])).comp
    s.resolve.flush.settle_frame

/-! ### Groups and the ladder -/

theorem State.setGroupState_frame (s : State) (i : Fin 6) (st : GroupState) : s.keepsBut (s.setGroupState i st) [.groups, .composer, .ladder] := by
  exact ((s.setChannel_frame i _).comp ((s.setChannel i _).request_frame .urgent) (cs := [.groups, .composer])).comp
    (State.relist_frame _)

theorem State.startTrip_frame (s : State) (i : Fin 6) : s.keepsBut (s.startTrip i) [.groups] :=
  fun b hb => by cases b <;> first | rfl | exact absurd (by decide) hb

theorem State.startClose_frame (s : State) (i : Fin 6) : s.keepsBut (s.startClose i) [.groups] :=
  fun b hb => by cases b <;> first | rfl | exact absurd (by decide) hb

theorem State.issueTrip_frame (s : State) (i : Fin 6) : s.keepsBut (s.issueTrip i) [.groups] := by
  unfold State.issueTrip
  split
  · exact s.setChannel_frame i _
  · exact s.startTrip_frame i

theorem State.startWindow_frame (s : State) (i : Fin 6) : s.keepsBut (s.startWindow i) [.groups] :=
  fun b hb => by cases b <;> first | rfl | exact absurd (by decide) hb

theorem State.takeShed_frame (s : State) (i : Fin 6) : s.keepsBut (s.takeShed i) [.groups, .composer, .ladder] := by
  unfold State.takeShed
  split
  · exact ((s.setGroupState_frame i _).comp (State.startWindow_frame _ i) (cs := [.groups, .composer, .ladder])).comp
      (State.issueTrip_frame _ i)
  · exact .refl _ _

theorem State.takeRestore_frame (s : State) (i : Fin 6) : s.keepsBut (s.takeRestore i) [.groups, .composer, .ladder] := by
  unfold State.takeRestore
  split
  · exact ((s.setGroupState_frame i _).comp (State.startWindow_frame _ i) (cs := [.groups, .composer, .ladder])).comp
      (State.startClose_frame _ i)
  · exact .refl _ _

theorem State.resetAge_frame (s : State)  : s.keepsBut (s.resetAge) [.ladder] :=
  fun b hb => by cases b <;> first | rfl | exact absurd (by decide) hb

theorem State.commandShed_frame (s : State) (i : Fin 6) : s.keepsBut (s.commandShed i) [.groups, .composer, .ladder] := by
  exact s.resetAge_frame.comp (State.takeShed_frame _ i)

theorem State.commandRestore_frame (s : State) (i : Fin 6) : s.keepsBut (s.commandRestore i) [.groups, .composer, .ladder] := by
  exact s.resetAge_frame.comp (State.takeRestore_frame _ i)

theorem State.takeStep_frame (s : State)  : s.keepsBut (s.takeStep) [.groups, .composer, .ladder, .alarms] := by
  unfold State.takeStep
  split
  · exact (s.raise_frame _).mono (by decide)
  · split
    · exact (s.commandShed_frame _).mono (by decide)
    · exact fun b hb => by cases b <;> first | rfl | exact absurd (by decide) hb

theorem Ladder.set_frame (s : State) (l : Ladder) : s.keepsBut { s with ladder := l } [.ladder] :=
  fun b hb => by cases b <;> first | rfl | exact absurd (by decide) hb

theorem State.nextStep_frame (s : State)  : s.keepsBut (s.nextStep) [.groups, .composer, .ladder, .alarms] := by
  unfold State.nextStep
  split
  · exact (Ladder.set_frame s _).comp (State.takeStep_frame _)
  · exact .refl _ _

theorem State.requestStep_frame (s : State)  : s.keepsBut (s.requestStep) [.groups, .composer, .ladder, .alarms] := by
  unfold State.requestStep
  split
  · exact s.takeStep_frame
  · exact (Ladder.set_frame s _).mono (by decide)

theorem State.syncLadder_frame (s : State)  : s.keepsBut (s.syncLadder) [.groups, .composer, .ladder, .alarms] := by
  unfold State.syncLadder
  dsimp only
  split
  · exact (Ladder.set_frame s _).mono (by decide)
  · split
    · exact (Ladder.set_frame s _).mono (by decide)
    · exact (Ladder.set_frame s _).comp ((Ladder.set_frame _ _).comp (State.nextStep_frame _)
        (cs := [.groups, .composer, .ladder, .alarms]))

theorem State.spread_frame (s : State)  : s.keepsBut (s.spread) [.island, .groups, .composer, .ladder, .alarms] := by
  exact s.resolve_frame.comp (State.syncLadder_frame _)

/-! ### The set sequencer and the trip notices -/

theorem Sequencer.set_frame (s : State) (q : Sequencer) : s.keepsBut { s with seq := q } [.seq] :=
  fun b hb => by cases b <;> first | rfl | exact absurd (by decide) hb

theorem State.setSetState_frame (s : State) (st : SetState) : s.keepsBut (s.setSetState st) [.seq, .regulator, .composer, .island] := by
  refine State.keepsBut.comp (as := [.seq, .regulator, .composer]) ?_ (State.resolve_frame _)
  refine State.keepsBut.comp (as := [.seq, .regulator]) ?_ (State.request_frame _ _)
  exact fun b hb => by cases b <;> first | rfl | exact absurd (by decide) hb

theorem State.issueStart_frame (s : State)  : s.keepsBut (s.issueStart) [.seq] :=
  fun b hb => by cases b <;> first | rfl | exact absurd (by decide) hb

theorem State.issueStop_frame (s : State)  : s.keepsBut (s.issueStop) [.seq] := by
  unfold State.issueStop
  split <;> exact Sequencer.set_frame s _

theorem State.issueOpen_frame (s : State)  : s.keepsBut (s.issueOpen) [.seq] :=
  fun b hb => by cases b <;> first | rfl | exact absurd (by decide) hb

theorem State.takeStart_frame (s : State)  : s.keepsBut (s.takeStart) [.seq, .regulator, .composer, .island] := by
  unfold State.takeStart
  split
  · exact (s.issueStart_frame.comp (State.setSetState_frame _ _) (cs := [.seq, .regulator, .composer, .island])).comp
      (Sequencer.set_frame _ _)
  · exact .refl _ _

theorem State.closeOnBus_frame (s : State)  : s.keepsBut (s.closeOnBus) [.seq, .regulator, .composer, .island] := by
  exact (Sequencer.set_frame s _).comp (State.setSetState_frame _ _)

theorem State.leaveStarting_frame (s : State) (st : SetState) : s.keepsBut (s.leaveStarting st) [.seq, .regulator, .composer, .island] := by
  exact (Sequencer.set_frame s _).comp (State.setSetState_frame _ _)

theorem State.enterUnloading_frame (s : State) (k : UnloadKind) : s.keepsBut (s.enterUnloading k) [.seq, .regulator, .composer, .island] := by
  exact (Sequencer.set_frame s _).comp (State.setSetState_frame _ _)

theorem State.judgeUnload_frame (s : State)  : s.keepsBut (s.judgeUnload) [.seq, .regulator, .composer, .island, .alarms] := by
  unfold State.judgeUnload
  split
  · exact (s.enterUnloading_frame _).mono (by decide)
  · exact (s.raise_frame _).mono (by decide)

theorem State.takeLoadingComplete_frame (s : State)  : s.keepsBut (s.takeLoadingComplete) [.seq, .regulator, .composer, .island, .alarms] := by
  unfold State.takeLoadingComplete
  split
  · dsimp only
    split
    · exact (s.setSetState_frame _).comp ((Sequencer.set_frame _ _).comp (State.judgeUnload_frame _)
        (cs := [.seq, .regulator, .composer, .island, .alarms]))
    · exact (s.setSetState_frame _).mono (by decide)
  · exact .refl _ _

theorem State.takeUnloaded_frame (s : State)  : s.keepsBut (s.takeUnloaded) [.seq, .regulator, .composer, .island] := by
  unfold State.takeUnloaded
  split
  · exact s.issueOpen_frame.comp ((Sequencer.set_frame _ _).comp (State.setSetState_frame _ _)
      (cs := [.seq, .regulator, .composer, .island]))
  · exact .refl _ _

theorem State.returnToSharing_frame (s : State)  : s.keepsBut (s.returnToSharing) [.seq, .regulator, .composer, .island] := by
  exact (Sequencer.set_frame s _).comp (State.setSetState_frame _ _)

theorem State.abortUnload_frame (s : State)  : s.keepsBut (s.abortUnload) [.seq, .regulator, .composer, .island] := by
  unfold State.abortUnload
  split
  · exact s.returnToSharing_frame
  · exact .refl _ _

theorem State.takeStop_frame (s : State)  : s.keepsBut (s.takeStop) [.seq, .regulator, .composer, .island] := by
  unfold State.takeStop
  split
  · exact s.enterUnloading_frame _
  · exact .refl _ _

theorem State.blockShed_frame (s : State) (n : TripNotice) : s.keepsBut (s.blockShed n) [.groups, .composer, .ladder, .alarms] := by
  unfold State.blockShed
  dsimp only
  split
  · exact .refl _ _
  · split
    · exact (s.raise_frame _).comp (bs := [.groups, .composer, .ladder])
        (State.keepsBut.foldl (fun t (e : LadderEntry) => t.commandShed_frame e.index) _ _)
    · exact (State.keepsBut.foldl (bs := [.groups, .composer, .ladder])
        (fun t (e : LadderEntry) => t.commandShed_frame e.index) _ _).mono (by decide)

theorem State.startTripRecent_frame (s : State)  : s.keepsBut (s.startTripRecent) [.duty] :=
  fun b hb => by cases b <;> first | rfl | exact absurd (by decide) hb

theorem State.takeTripNotice_frame (s : State) (n : TripNotice) : s.keepsBut (s.takeTripNotice n) [.seq, .regulator, .composer, .island, .groups, .ladder, .alarms, .duty] := by
  unfold State.takeTripNotice
  dsimp only
  split
  · split <;> split
    · exact ((s.blockShed_frame n).comp (State.startTripRecent_frame _)
        (cs := [.groups, .composer, .ladder, .alarms, .duty])).mono (by decide)
    · exact ((s.blockShed_frame n).comp (State.startTripRecent_frame _)
        (cs := [.groups, .composer, .ladder, .alarms, .duty])).comp (State.abortUnload_frame _)
    · exact .refl _ _
    · exact s.abortUnload_frame.mono (by decide)
  · exact .refl _ _

/-! ### The admission logic -/

theorem State.noteFit_frame (s : State) (c : IslandClaim) : s.keepsBut (s.noteFit c) [.admission] :=
  fun b hb => by cases b <;> first | rfl | exact absurd (by decide) hb

theorem State.setClaimState_frame (s : State) (n : Fin 2) (c : Claim) : s.keepsBut (s.setClaimState n c) [.admission, .composer] := by
  unfold State.setClaimState
  dsimp only
  split
  · exact (s.setClaim_frame n c).comp (State.request_frame _ _)
  · exact (s.setClaim_frame n c).mono (by decide)

theorem State.toClaiming_frame (s : State) (n : Fin 2) : s.keepsBut (s.toClaiming n) [.admission, .composer] := by
  exact s.setClaimState_frame n _

theorem State.toWaiting_frame (s : State) (n : Fin 2) : s.keepsBut (s.toWaiting n) [.admission, .composer] := by
  exact s.setClaimState_frame n _

theorem State.toGranted_frame (s : State) (n : Fin 2) : s.keepsBut (s.toGranted n) [.admission, .composer] := by
  exact s.setClaimState_frame n _

theorem State.toRefused_frame (s : State) (n : Fin 2) : s.keepsBut (s.toRefused n) [.admission, .composer, .alarms] := by
  exact (s.setClaimState_frame n _).comp (State.raise_frame _ _)

theorem State.takeRequest_frame (s : State) (n : Fin 2) : s.keepsBut (s.takeRequest n) [.admission, .composer] := by
  unfold State.takeRequest
  split
  · dsimp only
    split
    · exact (s.noteFit_frame _).comp ((State.setClaim_frame _ n _).comp (State.toClaiming_frame _ n)
        (cs := [.admission, .composer]))
    · exact (s.noteFit_frame _).comp ((State.setClaim_frame _ n _).comp (State.toWaiting_frame _ n)
        (cs := [.admission, .composer]))
  · exact .refl _ _

theorem State.retestClaim_frame (s : State) (n : Fin 2) : s.keepsBut (s.retestClaim n) [.admission, .composer] := by
  unfold State.retestClaim
  split
  · split
    · dsimp only
      split
      · exact (s.noteFit_frame _).comp (State.toClaiming_frame _ n)
      · exact (s.noteFit_frame _).mono (by decide)
    · exact .refl _ _
  · exact .refl _ _

theorem State.judgeWindow_frame (s : State) (n : Fin 2) : s.keepsBut (s.judgeWindow n) [.admission, .composer, .alarms] := by
  unfold State.judgeWindow
  split
  · exact .refl _ _
  · dsimp only
    split
    · exact ((s.noteFit_frame _).comp (State.toGranted_frame _ n) (cs := [.admission, .composer])).mono (by decide)
    · split
      · exact (s.noteFit_frame _).comp (State.toRefused_frame _ n)
      · exact ((s.noteFit_frame _).comp (State.toWaiting_frame _ n) (cs := [.admission, .composer])).mono (by decide)

end Sys2Proof.Machine
end

