-- ==== Sys2Proof/Laws/State.lean ====
section
/-! SUPPORT. One lemma for each field of the state and each of its plain updates, so that no proof unfolds a record
update; and the reads of the tables after their writes. -/

namespace Sys2Proof.Machine

/-! ### `State.setLane` -/

@[simp] theorem State.setLane_now (s : State) (l : LaneId) (x : LaneIf) : (s.setLane l x).now = s.now := by cases l <;> rfl
@[simp] theorem State.setLane_powered (s : State) (l : LaneId) (x : LaneIf) : (s.setLane l x).powered = s.powered := by cases l <;> rfl
@[simp] theorem State.setLane_pins (s : State) (l : LaneId) (x : LaneIf) : (s.setLane l x).pins = s.pins := by cases l <;> rfl
@[simp] theorem State.setLane_linkOk (s : State) (l : LaneId) (x : LaneIf) : (s.setLane l x).linkOk = s.linkOk := by cases l <;> rfl
@[simp] theorem State.setLane_composer (s : State) (l : LaneId) (x : LaneIf) : (s.setLane l x).composer = s.composer := by cases l <;> rfl
@[simp] theorem State.setLane_rx (s : State) (l : LaneId) (x : LaneIf) : (s.setLane l x).rx = s.rx := by cases l <;> rfl
@[simp] theorem State.setLane_peers (s : State) (l : LaneId) (x : LaneIf) : (s.setLane l x).peers = s.peers := by cases l <;> rfl
@[simp] theorem State.setLane_island (s : State) (l : LaneId) (x : LaneIf) : (s.setLane l x).island = s.island := by cases l <;> rfl
@[simp] theorem State.setLane_metering (s : State) (l : LaneId) (x : LaneIf) : (s.setLane l x).metering = s.metering := by cases l <;> rfl
@[simp] theorem State.setLane_regulator (s : State) (l : LaneId) (x : LaneIf) : (s.setLane l x).regulator = s.regulator := by cases l <;> rfl
@[simp] theorem State.setLane_seq (s : State) (l : LaneId) (x : LaneIf) : (s.setLane l x).seq = s.seq := by cases l <;> rfl
@[simp] theorem State.setLane_duty (s : State) (l : LaneId) (x : LaneIf) : (s.setLane l x).duty = s.duty := by cases l <;> rfl
@[simp] theorem State.setLane_groups (s : State) (l : LaneId) (x : LaneIf) : (s.setLane l x).groups = s.groups := by cases l <;> rfl
@[simp] theorem State.setLane_ladder (s : State) (l : LaneId) (x : LaneIf) : (s.setLane l x).ladder = s.ladder := by cases l <;> rfl
@[simp] theorem State.setLane_admission (s : State) (l : LaneId) (x : LaneIf) : (s.setLane l x).admission = s.admission := by cases l <;> rfl
@[simp] theorem State.setLane_loader (s : State) (l : LaneId) (x : LaneIf) : (s.setLane l x).loader = s.loader := by cases l <;> rfl
@[simp] theorem State.setLane_service (s : State) (l : LaneId) (x : LaneIf) : (s.setLane l x).service = s.service := by cases l <;> rfl
@[simp] theorem State.setLane_alarms (s : State) (l : LaneId) (x : LaneIf) : (s.setLane l x).alarms = s.alarms := by cases l <;> rfl
@[simp] theorem State.setLane_pending (s : State) (l : LaneId) (x : LaneIf) : (s.setLane l x).pending = s.pending := by cases l <;> rfl

@[simp] theorem State.lane_setLane (s : State) (l : LaneId) (x : LaneIf) : (s.setLane l x).lane l = x := by
  cases l <;> rfl
@[simp] theorem State.lane_setLane_other (s : State) (l : LaneId) (x : LaneIf) :
    (s.setLane l x).lane (otherLane l) = s.lane (otherLane l) := by cases l <;> rfl
@[simp] theorem State.setLane_setLane (s : State) (l : LaneId) (x y : LaneIf) :
    (s.setLane l x).setLane l y = s.setLane l y := by cases l <;> rfl
@[simp] theorem otherLane_ne (l : LaneId) : otherLane l ≠ l := by cases l <;> decide

/-! ### `State.setEntry` -/

@[simp] theorem State.setEntry_now (s : State) (i : Station) (e : PeerEntry) : (s.setEntry i e).now = s.now := rfl
@[simp] theorem State.setEntry_powered (s : State) (i : Station) (e : PeerEntry) : (s.setEntry i e).powered = s.powered := rfl
@[simp] theorem State.setEntry_pins (s : State) (i : Station) (e : PeerEntry) : (s.setEntry i e).pins = s.pins := rfl
@[simp] theorem State.setEntry_laneA (s : State) (i : Station) (e : PeerEntry) : (s.setEntry i e).laneA = s.laneA := rfl
@[simp] theorem State.setEntry_laneB (s : State) (i : Station) (e : PeerEntry) : (s.setEntry i e).laneB = s.laneB := rfl
@[simp] theorem State.setEntry_linkOk (s : State) (i : Station) (e : PeerEntry) : (s.setEntry i e).linkOk = s.linkOk := rfl
@[simp] theorem State.setEntry_composer (s : State) (i : Station) (e : PeerEntry) : (s.setEntry i e).composer = s.composer := rfl
@[simp] theorem State.setEntry_rx (s : State) (i : Station) (e : PeerEntry) : (s.setEntry i e).rx = s.rx := rfl
@[simp] theorem State.setEntry_island (s : State) (i : Station) (e : PeerEntry) : (s.setEntry i e).island = s.island := rfl
@[simp] theorem State.setEntry_metering (s : State) (i : Station) (e : PeerEntry) : (s.setEntry i e).metering = s.metering := rfl
@[simp] theorem State.setEntry_regulator (s : State) (i : Station) (e : PeerEntry) : (s.setEntry i e).regulator = s.regulator := rfl
@[simp] theorem State.setEntry_seq (s : State) (i : Station) (e : PeerEntry) : (s.setEntry i e).seq = s.seq := rfl
@[simp] theorem State.setEntry_duty (s : State) (i : Station) (e : PeerEntry) : (s.setEntry i e).duty = s.duty := rfl
@[simp] theorem State.setEntry_groups (s : State) (i : Station) (e : PeerEntry) : (s.setEntry i e).groups = s.groups := rfl
@[simp] theorem State.setEntry_ladder (s : State) (i : Station) (e : PeerEntry) : (s.setEntry i e).ladder = s.ladder := rfl
@[simp] theorem State.setEntry_admission (s : State) (i : Station) (e : PeerEntry) : (s.setEntry i e).admission = s.admission := rfl
@[simp] theorem State.setEntry_loader (s : State) (i : Station) (e : PeerEntry) : (s.setEntry i e).loader = s.loader := rfl
@[simp] theorem State.setEntry_service (s : State) (i : Station) (e : PeerEntry) : (s.setEntry i e).service = s.service := rfl
@[simp] theorem State.setEntry_alarms (s : State) (i : Station) (e : PeerEntry) : (s.setEntry i e).alarms = s.alarms := rfl
@[simp] theorem State.setEntry_pending (s : State) (i : Station) (e : PeerEntry) : (s.setEntry i e).pending = s.pending := rfl

@[simp] theorem State.entry_setEntry (s : State) (i : Station) (e : PeerEntry) : (s.setEntry i e).entry i = e := by
  simp [State.entry, State.setEntry]
theorem State.entry_setEntry_ne (s : State) {i j : Station} (e : PeerEntry) (h : i ≠ j) :
    (s.setEntry i e).entry j = s.entry j := by
  have : (i : Nat) ≠ j := fun h' => h (Fin.ext h')
  simp [State.entry, State.setEntry, this]

/-! ### `State.setChannel` -/

@[simp] theorem State.setChannel_now (s : State) (i : Fin 6) (c : Channel) : (s.setChannel i c).now = s.now := rfl
@[simp] theorem State.setChannel_powered (s : State) (i : Fin 6) (c : Channel) : (s.setChannel i c).powered = s.powered := rfl
@[simp] theorem State.setChannel_pins (s : State) (i : Fin 6) (c : Channel) : (s.setChannel i c).pins = s.pins := rfl
@[simp] theorem State.setChannel_laneA (s : State) (i : Fin 6) (c : Channel) : (s.setChannel i c).laneA = s.laneA := rfl
@[simp] theorem State.setChannel_laneB (s : State) (i : Fin 6) (c : Channel) : (s.setChannel i c).laneB = s.laneB := rfl
@[simp] theorem State.setChannel_linkOk (s : State) (i : Fin 6) (c : Channel) : (s.setChannel i c).linkOk = s.linkOk := rfl
@[simp] theorem State.setChannel_composer (s : State) (i : Fin 6) (c : Channel) : (s.setChannel i c).composer = s.composer := rfl
@[simp] theorem State.setChannel_rx (s : State) (i : Fin 6) (c : Channel) : (s.setChannel i c).rx = s.rx := rfl
@[simp] theorem State.setChannel_peers (s : State) (i : Fin 6) (c : Channel) : (s.setChannel i c).peers = s.peers := rfl
@[simp] theorem State.setChannel_island (s : State) (i : Fin 6) (c : Channel) : (s.setChannel i c).island = s.island := rfl
@[simp] theorem State.setChannel_metering (s : State) (i : Fin 6) (c : Channel) : (s.setChannel i c).metering = s.metering := rfl
@[simp] theorem State.setChannel_regulator (s : State) (i : Fin 6) (c : Channel) : (s.setChannel i c).regulator = s.regulator := rfl
@[simp] theorem State.setChannel_seq (s : State) (i : Fin 6) (c : Channel) : (s.setChannel i c).seq = s.seq := rfl
@[simp] theorem State.setChannel_duty (s : State) (i : Fin 6) (c : Channel) : (s.setChannel i c).duty = s.duty := rfl
@[simp] theorem State.setChannel_ladder (s : State) (i : Fin 6) (c : Channel) : (s.setChannel i c).ladder = s.ladder := rfl
@[simp] theorem State.setChannel_admission (s : State) (i : Fin 6) (c : Channel) : (s.setChannel i c).admission = s.admission := rfl
@[simp] theorem State.setChannel_loader (s : State) (i : Fin 6) (c : Channel) : (s.setChannel i c).loader = s.loader := rfl
@[simp] theorem State.setChannel_service (s : State) (i : Fin 6) (c : Channel) : (s.setChannel i c).service = s.service := rfl
@[simp] theorem State.setChannel_alarms (s : State) (i : Fin 6) (c : Channel) : (s.setChannel i c).alarms = s.alarms := rfl
@[simp] theorem State.setChannel_pending (s : State) (i : Fin 6) (c : Channel) : (s.setChannel i c).pending = s.pending := rfl

@[simp] theorem State.channel_setChannel (s : State) (i : Fin 6) (c : Channel) : (s.setChannel i c).channel i = c := by
  simp [State.channel, State.setChannel]
theorem State.channel_setChannel_ne (s : State) {i j : Fin 6} (c : Channel) (h : i ≠ j) :
    (s.setChannel i c).channel j = s.channel j := by
  have : (i : Nat) ≠ j := fun h' => h (Fin.ext h')
  simp [State.channel, State.setChannel, this]
@[simp] theorem State.setChannel_closeSpacing (s : State) (i : Fin 6) (c : Channel) :
    (s.setChannel i c).groups.closeSpacing = s.groups.closeSpacing := rfl

/-! ### `State.setClaim` -/

@[simp] theorem State.setClaim_now (s : State) (n : Fin 2) (c : Claim) : (s.setClaim n c).now = s.now := rfl
@[simp] theorem State.setClaim_powered (s : State) (n : Fin 2) (c : Claim) : (s.setClaim n c).powered = s.powered := rfl
@[simp] theorem State.setClaim_pins (s : State) (n : Fin 2) (c : Claim) : (s.setClaim n c).pins = s.pins := rfl
@[simp] theorem State.setClaim_laneA (s : State) (n : Fin 2) (c : Claim) : (s.setClaim n c).laneA = s.laneA := rfl
@[simp] theorem State.setClaim_laneB (s : State) (n : Fin 2) (c : Claim) : (s.setClaim n c).laneB = s.laneB := rfl
@[simp] theorem State.setClaim_linkOk (s : State) (n : Fin 2) (c : Claim) : (s.setClaim n c).linkOk = s.linkOk := rfl
@[simp] theorem State.setClaim_composer (s : State) (n : Fin 2) (c : Claim) : (s.setClaim n c).composer = s.composer := rfl
@[simp] theorem State.setClaim_rx (s : State) (n : Fin 2) (c : Claim) : (s.setClaim n c).rx = s.rx := rfl
@[simp] theorem State.setClaim_peers (s : State) (n : Fin 2) (c : Claim) : (s.setClaim n c).peers = s.peers := rfl
@[simp] theorem State.setClaim_island (s : State) (n : Fin 2) (c : Claim) : (s.setClaim n c).island = s.island := rfl
@[simp] theorem State.setClaim_metering (s : State) (n : Fin 2) (c : Claim) : (s.setClaim n c).metering = s.metering := rfl
@[simp] theorem State.setClaim_regulator (s : State) (n : Fin 2) (c : Claim) : (s.setClaim n c).regulator = s.regulator := rfl
@[simp] theorem State.setClaim_seq (s : State) (n : Fin 2) (c : Claim) : (s.setClaim n c).seq = s.seq := rfl
@[simp] theorem State.setClaim_duty (s : State) (n : Fin 2) (c : Claim) : (s.setClaim n c).duty = s.duty := rfl
@[simp] theorem State.setClaim_groups (s : State) (n : Fin 2) (c : Claim) : (s.setClaim n c).groups = s.groups := rfl
@[simp] theorem State.setClaim_ladder (s : State) (n : Fin 2) (c : Claim) : (s.setClaim n c).ladder = s.ladder := rfl
@[simp] theorem State.setClaim_loader (s : State) (n : Fin 2) (c : Claim) : (s.setClaim n c).loader = s.loader := rfl
@[simp] theorem State.setClaim_service (s : State) (n : Fin 2) (c : Claim) : (s.setClaim n c).service = s.service := rfl
@[simp] theorem State.setClaim_alarms (s : State) (n : Fin 2) (c : Claim) : (s.setClaim n c).alarms = s.alarms := rfl
@[simp] theorem State.setClaim_pending (s : State) (n : Fin 2) (c : Claim) : (s.setClaim n c).pending = s.pending := rfl

@[simp] theorem State.claim_setClaim (s : State) (n : Fin 2) (c : Claim) : (s.setClaim n c).claim n = c := by
  simp [State.claim, State.setClaim]
theorem State.claim_setClaim_ne (s : State) {n m : Fin 2} (c : Claim) (h : n ≠ m) :
    (s.setClaim n c).claim m = s.claim m := by
  have : (n : Nat) ≠ m := fun h' => h (Fin.ext h')
  simp [State.claim, State.setClaim, this]
@[simp] theorem State.setClaim_retest (s : State) (n : Fin 2) (c : Claim) :
    (s.setClaim n c).admission.retest = s.admission.retest := rfl

/-! ### `State.advanceTo` -/

@[simp] theorem State.advanceTo_powered (s : State) (t : Nat) : (s.advanceTo t).powered = s.powered := rfl
@[simp] theorem State.advanceTo_pins (s : State) (t : Nat) : (s.advanceTo t).pins = s.pins := rfl
@[simp] theorem State.advanceTo_linkOk (s : State) (t : Nat) : (s.advanceTo t).linkOk = s.linkOk := rfl
@[simp] theorem State.advanceTo_composer (s : State) (t : Nat) : (s.advanceTo t).composer = s.composer := rfl
@[simp] theorem State.advanceTo_rx (s : State) (t : Nat) : (s.advanceTo t).rx = s.rx := rfl
@[simp] theorem State.advanceTo_peers (s : State) (t : Nat) : (s.advanceTo t).peers = s.peers := rfl
@[simp] theorem State.advanceTo_island (s : State) (t : Nat) : (s.advanceTo t).island = s.island := rfl
@[simp] theorem State.advanceTo_metering (s : State) (t : Nat) : (s.advanceTo t).metering = s.metering := rfl
@[simp] theorem State.advanceTo_regulator (s : State) (t : Nat) : (s.advanceTo t).regulator = s.regulator := rfl
@[simp] theorem State.advanceTo_seq (s : State) (t : Nat) : (s.advanceTo t).seq = s.seq := rfl
@[simp] theorem State.advanceTo_duty (s : State) (t : Nat) : (s.advanceTo t).duty = s.duty := rfl
@[simp] theorem State.advanceTo_groups (s : State) (t : Nat) : (s.advanceTo t).groups = s.groups := rfl
@[simp] theorem State.advanceTo_ladder (s : State) (t : Nat) : (s.advanceTo t).ladder = s.ladder := rfl
@[simp] theorem State.advanceTo_admission (s : State) (t : Nat) : (s.advanceTo t).admission = s.admission := rfl
@[simp] theorem State.advanceTo_loader (s : State) (t : Nat) : (s.advanceTo t).loader = s.loader := rfl
@[simp] theorem State.advanceTo_service (s : State) (t : Nat) : (s.advanceTo t).service = s.service := rfl
@[simp] theorem State.advanceTo_alarms (s : State) (t : Nat) : (s.advanceTo t).alarms = s.alarms := rfl
@[simp] theorem State.advanceTo_pending (s : State) (t : Nat) : (s.advanceTo t).pending = s.pending := rfl

@[simp] theorem State.advanceTo_now (s : State) (t : Nat) : (s.advanceTo t).now = max s.now t := rfl
@[simp] theorem State.advanceTo_lane (s : State) (t : Nat) (l : LaneId) :
    (s.advanceTo t).lane l = (s.lane l).countBytes (max s.now t) := by cases l <;> rfl
@[simp] theorem State.advanceTo_entry (s : State) (t : Nat) (i : Station) : (s.advanceTo t).entry i = s.entry i := rfl
@[simp] theorem State.advanceTo_channel (s : State) (t : Nat) (i : Fin 6) :
    (s.advanceTo t).channel i = s.channel i := rfl
@[simp] theorem State.advanceTo_claim (s : State) (t : Nat) (n : Fin 2) : (s.advanceTo t).claim n = s.claim n := rfl

/-! ### `LaneIf.countBytes` -/

@[simp] theorem LaneIf.countBytes_tx (l : LaneIf) (n : Nat) : (l.countBytes n).tx = l.tx := by
  unfold LaneIf.countBytes; split <;> rfl
@[simp] theorem LaneIf.countBytes_pendingFrame (l : LaneIf) (n : Nat) : (l.countBytes n).pendingFrame = l.pendingFrame := by
  unfold LaneIf.countBytes; split <;> rfl
@[simp] theorem LaneIf.countBytes_nextFrame (l : LaneIf) (n : Nat) : (l.countBytes n).nextFrame = l.nextFrame := by
  unfold LaneIf.countBytes; split <;> rfl
@[simp] theorem LaneIf.countBytes_attempts (l : LaneIf) (n : Nat) : (l.countBytes n).attempts = l.attempts := by
  unfold LaneIf.countBytes; split <;> rfl
@[simp] theorem LaneIf.countBytes_sendStart (l : LaneIf) (n : Nat) : (l.countBytes n).sendStart = l.sendStart := by
  unfold LaneIf.countBytes; split <;> rfl
@[simp] theorem LaneIf.countBytes_jam (l : LaneIf) (n : Nat) : (l.countBytes n).jam = l.jam := by
  unfold LaneIf.countBytes; split <;> rfl
@[simp] theorem LaneIf.countBytes_backoff (l : LaneIf) (n : Nat) : (l.countBytes n).backoff = l.backoff := by
  unfold LaneIf.countBytes; split <;> rfl
@[simp] theorem LaneIf.countBytes_test (l : LaneIf) (n : Nat) : (l.countBytes n).test = l.test := by
  unfold LaneIf.countBytes; split <;> rfl
@[simp] theorem LaneIf.countBytes_quietFrom (l : LaneIf) (n : Nat) : (l.countBytes n).quietFrom = l.quietFrom := by
  unfold LaneIf.countBytes; split <;> rfl
@[simp] theorem LaneIf.countBytes_receiving (l : LaneIf) (n : Nat) : (l.countBytes n).receiving = l.receiving := by
  unfold LaneIf.countBytes; split <;> rfl
@[simp] theorem LaneIf.countBytes_ownEnd (l : LaneIf) (n : Nat) : (l.countBytes n).ownEnd = l.ownEnd := by
  unfold LaneIf.countBytes; split <;> rfl
@[simp] theorem LaneIf.countBytes_stuck (l : LaneIf) (n : Nat) : (l.countBytes n).stuck = l.stuck := by
  unfold LaneIf.countBytes; split <;> rfl
@[simp] theorem LaneIf.countBytes_silent (l : LaneIf) (n : Nat) : (l.countBytes n).silent = l.silent := by
  unfold LaneIf.countBytes; split <;> rfl
@[simp] theorem LaneIf.countBytes_degraded (l : LaneIf) (n : Nat) : (l.countBytes n).degraded = l.degraded := by
  unfold LaneIf.countBytes; split <;> rfl
@[simp] theorem LaneIf.countBytes_errorCount (l : LaneIf) (n : Nat) : (l.countBytes n).errorCount = l.errorCount := by
  unfold LaneIf.countBytes; split <;> rfl
@[simp] theorem LaneIf.countBytes_errorWindow (l : LaneIf) (n : Nat) : (l.countBytes n).errorWindow = l.errorWindow := by
  unfold LaneIf.countBytes; split <;> rfl
@[simp] theorem LaneIf.countBytes_silence (l : LaneIf) (n : Nat) : (l.countBytes n).silence = l.silence := by
  unfold LaneIf.countBytes; split <;> rfl
@[simp] theorem LaneIf.countBytes_goodFrames (l : LaneIf) (n : Nat) : (l.countBytes n).goodFrames = l.goodFrames := by
  unfold LaneIf.countBytes; split <;> rfl
@[simp] theorem LaneIf.countBytes_checkErrors (l : LaneIf) (n : Nat) : (l.countBytes n).checkErrors = l.checkErrors := by
  unfold LaneIf.countBytes; split <;> rfl
@[simp] theorem LaneIf.countBytes_collisions (l : LaneIf) (n : Nat) : (l.countBytes n).collisions = l.collisions := by
  unfold LaneIf.countBytes; split <;> rfl
@[simp] theorem LaneIf.countBytes_collisionDrops (l : LaneIf) (n : Nat) : (l.countBytes n).collisionDrops = l.collisionDrops := by
  unfold LaneIf.countBytes; split <;> rfl
@[simp] theorem LaneIf.countBytes_replaced (l : LaneIf) (n : Nat) : (l.countBytes n).replaced = l.replaced := by
  unfold LaneIf.countBytes; split <;> rfl
@[simp] theorem LaneIf.countBytes_health (l : LaneIf) (n : Nat) : (l.countBytes n).health = l.health := by
  simp [LaneIf.health]
@[simp] theorem LaneIf.countBytes_isIdle (l : LaneIf) (n m : Nat) : (l.countBytes n).isIdle m = l.isIdle m := by
  simp [LaneIf.isIdle]

/-! ### `State.latchThose` -/

@[simp] theorem State.latchThose_now (s : State) (p : AlarmKind → Bool) : (s.latchThose p).now = s.now := rfl
@[simp] theorem State.latchThose_powered (s : State) (p : AlarmKind → Bool) : (s.latchThose p).powered = s.powered := rfl
@[simp] theorem State.latchThose_pins (s : State) (p : AlarmKind → Bool) : (s.latchThose p).pins = s.pins := rfl
@[simp] theorem State.latchThose_laneA (s : State) (p : AlarmKind → Bool) : (s.latchThose p).laneA = s.laneA := rfl
@[simp] theorem State.latchThose_laneB (s : State) (p : AlarmKind → Bool) : (s.latchThose p).laneB = s.laneB := rfl
@[simp] theorem State.latchThose_linkOk (s : State) (p : AlarmKind → Bool) : (s.latchThose p).linkOk = s.linkOk := rfl
@[simp] theorem State.latchThose_composer (s : State) (p : AlarmKind → Bool) : (s.latchThose p).composer = s.composer := rfl
@[simp] theorem State.latchThose_rx (s : State) (p : AlarmKind → Bool) : (s.latchThose p).rx = s.rx := rfl
@[simp] theorem State.latchThose_peers (s : State) (p : AlarmKind → Bool) : (s.latchThose p).peers = s.peers := rfl
@[simp] theorem State.latchThose_island (s : State) (p : AlarmKind → Bool) : (s.latchThose p).island = s.island := rfl
@[simp] theorem State.latchThose_metering (s : State) (p : AlarmKind → Bool) : (s.latchThose p).metering = s.metering := rfl
@[simp] theorem State.latchThose_regulator (s : State) (p : AlarmKind → Bool) : (s.latchThose p).regulator = s.regulator := rfl
@[simp] theorem State.latchThose_seq (s : State) (p : AlarmKind → Bool) : (s.latchThose p).seq = s.seq := rfl
@[simp] theorem State.latchThose_duty (s : State) (p : AlarmKind → Bool) : (s.latchThose p).duty = s.duty := rfl
@[simp] theorem State.latchThose_groups (s : State) (p : AlarmKind → Bool) : (s.latchThose p).groups = s.groups := rfl
@[simp] theorem State.latchThose_ladder (s : State) (p : AlarmKind → Bool) : (s.latchThose p).ladder = s.ladder := rfl
@[simp] theorem State.latchThose_admission (s : State) (p : AlarmKind → Bool) : (s.latchThose p).admission = s.admission := rfl
@[simp] theorem State.latchThose_loader (s : State) (p : AlarmKind → Bool) : (s.latchThose p).loader = s.loader := rfl
@[simp] theorem State.latchThose_service (s : State) (p : AlarmKind → Bool) : (s.latchThose p).service = s.service := rfl
@[simp] theorem State.latchThose_pending (s : State) (p : AlarmKind → Bool) : (s.latchThose p).pending = s.pending := rfl

/-! ### `State.raise` -/

@[simp] theorem State.raise_now (s : State) (k : AlarmKind) : (s.raise k).now = s.now := rfl
@[simp] theorem State.raise_powered (s : State) (k : AlarmKind) : (s.raise k).powered = s.powered := rfl
@[simp] theorem State.raise_pins (s : State) (k : AlarmKind) : (s.raise k).pins = s.pins := rfl
@[simp] theorem State.raise_laneA (s : State) (k : AlarmKind) : (s.raise k).laneA = s.laneA := rfl
@[simp] theorem State.raise_laneB (s : State) (k : AlarmKind) : (s.raise k).laneB = s.laneB := rfl
@[simp] theorem State.raise_linkOk (s : State) (k : AlarmKind) : (s.raise k).linkOk = s.linkOk := rfl
@[simp] theorem State.raise_composer (s : State) (k : AlarmKind) : (s.raise k).composer = s.composer := rfl
@[simp] theorem State.raise_rx (s : State) (k : AlarmKind) : (s.raise k).rx = s.rx := rfl
@[simp] theorem State.raise_peers (s : State) (k : AlarmKind) : (s.raise k).peers = s.peers := rfl
@[simp] theorem State.raise_island (s : State) (k : AlarmKind) : (s.raise k).island = s.island := rfl
@[simp] theorem State.raise_metering (s : State) (k : AlarmKind) : (s.raise k).metering = s.metering := rfl
@[simp] theorem State.raise_regulator (s : State) (k : AlarmKind) : (s.raise k).regulator = s.regulator := rfl
@[simp] theorem State.raise_seq (s : State) (k : AlarmKind) : (s.raise k).seq = s.seq := rfl
@[simp] theorem State.raise_duty (s : State) (k : AlarmKind) : (s.raise k).duty = s.duty := rfl
@[simp] theorem State.raise_groups (s : State) (k : AlarmKind) : (s.raise k).groups = s.groups := rfl
@[simp] theorem State.raise_ladder (s : State) (k : AlarmKind) : (s.raise k).ladder = s.ladder := rfl
@[simp] theorem State.raise_admission (s : State) (k : AlarmKind) : (s.raise k).admission = s.admission := rfl
@[simp] theorem State.raise_loader (s : State) (k : AlarmKind) : (s.raise k).loader = s.loader := rfl
@[simp] theorem State.raise_service (s : State) (k : AlarmKind) : (s.raise k).service = s.service := rfl
@[simp] theorem State.raise_pending (s : State) (k : AlarmKind) : (s.raise k).pending = s.pending := rfl

/-! ### `State.relink` -/

@[simp] theorem State.relink_now (s : State)  : (s.relink).now = s.now := rfl
@[simp] theorem State.relink_powered (s : State)  : (s.relink).powered = s.powered := rfl
@[simp] theorem State.relink_pins (s : State)  : (s.relink).pins = s.pins := rfl
@[simp] theorem State.relink_laneA (s : State)  : (s.relink).laneA = s.laneA := rfl
@[simp] theorem State.relink_laneB (s : State)  : (s.relink).laneB = s.laneB := rfl
@[simp] theorem State.relink_composer (s : State)  : (s.relink).composer = s.composer := rfl
@[simp] theorem State.relink_rx (s : State)  : (s.relink).rx = s.rx := rfl
@[simp] theorem State.relink_peers (s : State)  : (s.relink).peers = s.peers := rfl
@[simp] theorem State.relink_island (s : State)  : (s.relink).island = s.island := rfl
@[simp] theorem State.relink_metering (s : State)  : (s.relink).metering = s.metering := rfl
@[simp] theorem State.relink_regulator (s : State)  : (s.relink).regulator = s.regulator := rfl
@[simp] theorem State.relink_seq (s : State)  : (s.relink).seq = s.seq := rfl
@[simp] theorem State.relink_duty (s : State)  : (s.relink).duty = s.duty := rfl
@[simp] theorem State.relink_groups (s : State)  : (s.relink).groups = s.groups := rfl
@[simp] theorem State.relink_ladder (s : State)  : (s.relink).ladder = s.ladder := rfl
@[simp] theorem State.relink_admission (s : State)  : (s.relink).admission = s.admission := rfl
@[simp] theorem State.relink_loader (s : State)  : (s.relink).loader = s.loader := rfl
@[simp] theorem State.relink_service (s : State)  : (s.relink).service = s.service := rfl
@[simp] theorem State.relink_alarms (s : State)  : (s.relink).alarms = s.alarms := rfl
@[simp] theorem State.relink_pending (s : State)  : (s.relink).pending = s.pending := rfl

/-! ### `State.syncAlarms` -/

@[simp] theorem State.syncAlarms_now (s : State)  : (s.syncAlarms).now = s.now := rfl
@[simp] theorem State.syncAlarms_powered (s : State)  : (s.syncAlarms).powered = s.powered := rfl
@[simp] theorem State.syncAlarms_pins (s : State)  : (s.syncAlarms).pins = s.pins := rfl
@[simp] theorem State.syncAlarms_laneA (s : State)  : (s.syncAlarms).laneA = s.laneA := rfl
@[simp] theorem State.syncAlarms_laneB (s : State)  : (s.syncAlarms).laneB = s.laneB := rfl
@[simp] theorem State.syncAlarms_composer (s : State)  : (s.syncAlarms).composer = s.composer := rfl
@[simp] theorem State.syncAlarms_rx (s : State)  : (s.syncAlarms).rx = s.rx := rfl
@[simp] theorem State.syncAlarms_peers (s : State)  : (s.syncAlarms).peers = s.peers := rfl
@[simp] theorem State.syncAlarms_island (s : State)  : (s.syncAlarms).island = s.island := rfl
@[simp] theorem State.syncAlarms_metering (s : State)  : (s.syncAlarms).metering = s.metering := rfl
@[simp] theorem State.syncAlarms_regulator (s : State)  : (s.syncAlarms).regulator = s.regulator := rfl
@[simp] theorem State.syncAlarms_seq (s : State)  : (s.syncAlarms).seq = s.seq := rfl
@[simp] theorem State.syncAlarms_duty (s : State)  : (s.syncAlarms).duty = s.duty := rfl
@[simp] theorem State.syncAlarms_groups (s : State)  : (s.syncAlarms).groups = s.groups := rfl
@[simp] theorem State.syncAlarms_ladder (s : State)  : (s.syncAlarms).ladder = s.ladder := rfl
@[simp] theorem State.syncAlarms_admission (s : State)  : (s.syncAlarms).admission = s.admission := rfl
@[simp] theorem State.syncAlarms_loader (s : State)  : (s.syncAlarms).loader = s.loader := rfl
@[simp] theorem State.syncAlarms_service (s : State)  : (s.syncAlarms).service = s.service := rfl
@[simp] theorem State.syncAlarms_pending (s : State)  : (s.syncAlarms).pending = s.pending := rfl

/-! ### `State.resolve` -/

@[simp] theorem State.resolve_now (s : State)  : (s.resolve).now = s.now := rfl
@[simp] theorem State.resolve_powered (s : State)  : (s.resolve).powered = s.powered := rfl
@[simp] theorem State.resolve_pins (s : State)  : (s.resolve).pins = s.pins := rfl
@[simp] theorem State.resolve_laneA (s : State)  : (s.resolve).laneA = s.laneA := rfl
@[simp] theorem State.resolve_laneB (s : State)  : (s.resolve).laneB = s.laneB := rfl
@[simp] theorem State.resolve_linkOk (s : State)  : (s.resolve).linkOk = s.linkOk := rfl
@[simp] theorem State.resolve_composer (s : State)  : (s.resolve).composer = s.composer := rfl
@[simp] theorem State.resolve_rx (s : State)  : (s.resolve).rx = s.rx := rfl
@[simp] theorem State.resolve_peers (s : State)  : (s.resolve).peers = s.peers := rfl
@[simp] theorem State.resolve_metering (s : State)  : (s.resolve).metering = s.metering := rfl
@[simp] theorem State.resolve_regulator (s : State)  : (s.resolve).regulator = s.regulator := rfl
@[simp] theorem State.resolve_seq (s : State)  : (s.resolve).seq = s.seq := rfl
@[simp] theorem State.resolve_duty (s : State)  : (s.resolve).duty = s.duty := rfl
@[simp] theorem State.resolve_groups (s : State)  : (s.resolve).groups = s.groups := rfl
@[simp] theorem State.resolve_ladder (s : State)  : (s.resolve).ladder = s.ladder := rfl
@[simp] theorem State.resolve_admission (s : State)  : (s.resolve).admission = s.admission := rfl
@[simp] theorem State.resolve_loader (s : State)  : (s.resolve).loader = s.loader := rfl
@[simp] theorem State.resolve_service (s : State)  : (s.resolve).service = s.service := rfl
@[simp] theorem State.resolve_alarms (s : State)  : (s.resolve).alarms = s.alarms := rfl
@[simp] theorem State.resolve_pending (s : State)  : (s.resolve).pending = s.pending := rfl

/-! ### `State.relist` -/

@[simp] theorem State.relist_now (s : State)  : (s.relist).now = s.now := rfl
@[simp] theorem State.relist_powered (s : State)  : (s.relist).powered = s.powered := rfl
@[simp] theorem State.relist_pins (s : State)  : (s.relist).pins = s.pins := rfl
@[simp] theorem State.relist_laneA (s : State)  : (s.relist).laneA = s.laneA := rfl
@[simp] theorem State.relist_laneB (s : State)  : (s.relist).laneB = s.laneB := rfl
@[simp] theorem State.relist_linkOk (s : State)  : (s.relist).linkOk = s.linkOk := rfl
@[simp] theorem State.relist_composer (s : State)  : (s.relist).composer = s.composer := rfl
@[simp] theorem State.relist_rx (s : State)  : (s.relist).rx = s.rx := rfl
@[simp] theorem State.relist_peers (s : State)  : (s.relist).peers = s.peers := rfl
@[simp] theorem State.relist_island (s : State)  : (s.relist).island = s.island := rfl
@[simp] theorem State.relist_metering (s : State)  : (s.relist).metering = s.metering := rfl
@[simp] theorem State.relist_regulator (s : State)  : (s.relist).regulator = s.regulator := rfl
@[simp] theorem State.relist_seq (s : State)  : (s.relist).seq = s.seq := rfl
@[simp] theorem State.relist_duty (s : State)  : (s.relist).duty = s.duty := rfl
@[simp] theorem State.relist_groups (s : State)  : (s.relist).groups = s.groups := rfl
@[simp] theorem State.relist_admission (s : State)  : (s.relist).admission = s.admission := rfl
@[simp] theorem State.relist_loader (s : State)  : (s.relist).loader = s.loader := rfl
@[simp] theorem State.relist_service (s : State)  : (s.relist).service = s.service := rfl
@[simp] theorem State.relist_alarms (s : State)  : (s.relist).alarms = s.alarms := rfl
@[simp] theorem State.relist_pending (s : State)  : (s.relist).pending = s.pending := rfl

/-! ### `State.settle` -/

@[simp] theorem State.settle_now (s : State)  : (s.settle).now = s.now := by simp [State.settle]
@[simp] theorem State.settle_powered (s : State)  : (s.settle).powered = s.powered := by simp [State.settle]
@[simp] theorem State.settle_pins (s : State)  : (s.settle).pins = s.pins := by simp [State.settle]
@[simp] theorem State.settle_laneA (s : State)  : (s.settle).laneA = s.laneA := by simp [State.settle]
@[simp] theorem State.settle_laneB (s : State)  : (s.settle).laneB = s.laneB := by simp [State.settle]
@[simp] theorem State.settle_composer (s : State)  : (s.settle).composer = s.composer := by simp [State.settle]
@[simp] theorem State.settle_rx (s : State)  : (s.settle).rx = s.rx := by simp [State.settle]
@[simp] theorem State.settle_peers (s : State)  : (s.settle).peers = s.peers := by simp [State.settle]
@[simp] theorem State.settle_metering (s : State)  : (s.settle).metering = s.metering := by simp [State.settle]
@[simp] theorem State.settle_regulator (s : State)  : (s.settle).regulator = s.regulator := by simp [State.settle]
@[simp] theorem State.settle_seq (s : State)  : (s.settle).seq = s.seq := by simp [State.settle]
@[simp] theorem State.settle_duty (s : State)  : (s.settle).duty = s.duty := by simp [State.settle]
@[simp] theorem State.settle_groups (s : State)  : (s.settle).groups = s.groups := by simp [State.settle]
@[simp] theorem State.settle_admission (s : State)  : (s.settle).admission = s.admission := by simp [State.settle]
@[simp] theorem State.settle_loader (s : State)  : (s.settle).loader = s.loader := by simp [State.settle]
@[simp] theorem State.settle_service (s : State)  : (s.settle).service = s.service := by simp [State.settle]
@[simp] theorem State.settle_pending (s : State)  : (s.settle).pending = s.pending := by simp [State.settle]

/-! ### `State.setFilter` -/

@[simp] theorem State.setFilter_now (s : State) (tie : Fin 3) (t : Timer) : (s.setFilter tie t).now = s.now := rfl
@[simp] theorem State.setFilter_powered (s : State) (tie : Fin 3) (t : Timer) : (s.setFilter tie t).powered = s.powered := rfl
@[simp] theorem State.setFilter_pins (s : State) (tie : Fin 3) (t : Timer) : (s.setFilter tie t).pins = s.pins := rfl
@[simp] theorem State.setFilter_laneA (s : State) (tie : Fin 3) (t : Timer) : (s.setFilter tie t).laneA = s.laneA := rfl
@[simp] theorem State.setFilter_laneB (s : State) (tie : Fin 3) (t : Timer) : (s.setFilter tie t).laneB = s.laneB := rfl
@[simp] theorem State.setFilter_linkOk (s : State) (tie : Fin 3) (t : Timer) : (s.setFilter tie t).linkOk = s.linkOk := rfl
@[simp] theorem State.setFilter_composer (s : State) (tie : Fin 3) (t : Timer) : (s.setFilter tie t).composer = s.composer := rfl
@[simp] theorem State.setFilter_rx (s : State) (tie : Fin 3) (t : Timer) : (s.setFilter tie t).rx = s.rx := rfl
@[simp] theorem State.setFilter_peers (s : State) (tie : Fin 3) (t : Timer) : (s.setFilter tie t).peers = s.peers := rfl
@[simp] theorem State.setFilter_metering (s : State) (tie : Fin 3) (t : Timer) : (s.setFilter tie t).metering = s.metering := rfl
@[simp] theorem State.setFilter_regulator (s : State) (tie : Fin 3) (t : Timer) : (s.setFilter tie t).regulator = s.regulator := rfl
@[simp] theorem State.setFilter_seq (s : State) (tie : Fin 3) (t : Timer) : (s.setFilter tie t).seq = s.seq := rfl
@[simp] theorem State.setFilter_duty (s : State) (tie : Fin 3) (t : Timer) : (s.setFilter tie t).duty = s.duty := rfl
@[simp] theorem State.setFilter_groups (s : State) (tie : Fin 3) (t : Timer) : (s.setFilter tie t).groups = s.groups := rfl
@[simp] theorem State.setFilter_ladder (s : State) (tie : Fin 3) (t : Timer) : (s.setFilter tie t).ladder = s.ladder := rfl
@[simp] theorem State.setFilter_admission (s : State) (tie : Fin 3) (t : Timer) : (s.setFilter tie t).admission = s.admission := rfl
@[simp] theorem State.setFilter_loader (s : State) (tie : Fin 3) (t : Timer) : (s.setFilter tie t).loader = s.loader := rfl
@[simp] theorem State.setFilter_service (s : State) (tie : Fin 3) (t : Timer) : (s.setFilter tie t).service = s.service := rfl
@[simp] theorem State.setFilter_alarms (s : State) (tie : Fin 3) (t : Timer) : (s.setFilter tie t).alarms = s.alarms := rfl
@[simp] theorem State.setFilter_pending (s : State) (tie : Fin 3) (t : Timer) : (s.setFilter tie t).pending = s.pending := rfl

/-! ### `State.setTiePin` -/

@[simp] theorem State.setTiePin_now (s : State) (tie : Fin 3) (closed : Bool) : (s.setTiePin tie closed).now = s.now := rfl
@[simp] theorem State.setTiePin_powered (s : State) (tie : Fin 3) (closed : Bool) : (s.setTiePin tie closed).powered = s.powered := rfl
@[simp] theorem State.setTiePin_laneA (s : State) (tie : Fin 3) (closed : Bool) : (s.setTiePin tie closed).laneA = s.laneA := rfl
@[simp] theorem State.setTiePin_laneB (s : State) (tie : Fin 3) (closed : Bool) : (s.setTiePin tie closed).laneB = s.laneB := rfl
@[simp] theorem State.setTiePin_linkOk (s : State) (tie : Fin 3) (closed : Bool) : (s.setTiePin tie closed).linkOk = s.linkOk := rfl
@[simp] theorem State.setTiePin_composer (s : State) (tie : Fin 3) (closed : Bool) : (s.setTiePin tie closed).composer = s.composer := rfl
@[simp] theorem State.setTiePin_rx (s : State) (tie : Fin 3) (closed : Bool) : (s.setTiePin tie closed).rx = s.rx := rfl
@[simp] theorem State.setTiePin_peers (s : State) (tie : Fin 3) (closed : Bool) : (s.setTiePin tie closed).peers = s.peers := rfl
@[simp] theorem State.setTiePin_island (s : State) (tie : Fin 3) (closed : Bool) : (s.setTiePin tie closed).island = s.island := rfl
@[simp] theorem State.setTiePin_metering (s : State) (tie : Fin 3) (closed : Bool) : (s.setTiePin tie closed).metering = s.metering := rfl
@[simp] theorem State.setTiePin_regulator (s : State) (tie : Fin 3) (closed : Bool) : (s.setTiePin tie closed).regulator = s.regulator := rfl
@[simp] theorem State.setTiePin_seq (s : State) (tie : Fin 3) (closed : Bool) : (s.setTiePin tie closed).seq = s.seq := rfl
@[simp] theorem State.setTiePin_duty (s : State) (tie : Fin 3) (closed : Bool) : (s.setTiePin tie closed).duty = s.duty := rfl
@[simp] theorem State.setTiePin_groups (s : State) (tie : Fin 3) (closed : Bool) : (s.setTiePin tie closed).groups = s.groups := rfl
@[simp] theorem State.setTiePin_ladder (s : State) (tie : Fin 3) (closed : Bool) : (s.setTiePin tie closed).ladder = s.ladder := rfl
@[simp] theorem State.setTiePin_admission (s : State) (tie : Fin 3) (closed : Bool) : (s.setTiePin tie closed).admission = s.admission := rfl
@[simp] theorem State.setTiePin_loader (s : State) (tie : Fin 3) (closed : Bool) : (s.setTiePin tie closed).loader = s.loader := rfl
@[simp] theorem State.setTiePin_service (s : State) (tie : Fin 3) (closed : Bool) : (s.setTiePin tie closed).service = s.service := rfl
@[simp] theorem State.setTiePin_alarms (s : State) (tie : Fin 3) (closed : Bool) : (s.setTiePin tie closed).alarms = s.alarms := rfl
@[simp] theorem State.setTiePin_pending (s : State) (tie : Fin 3) (closed : Bool) : (s.setTiePin tie closed).pending = s.pending := rfl

/-! ### `State.setRequestPin` -/

@[simp] theorem State.setRequestPin_now (s : State) (n : Fin 2) (high : Bool) : (s.setRequestPin n high).now = s.now := rfl
@[simp] theorem State.setRequestPin_powered (s : State) (n : Fin 2) (high : Bool) : (s.setRequestPin n high).powered = s.powered := rfl
@[simp] theorem State.setRequestPin_laneA (s : State) (n : Fin 2) (high : Bool) : (s.setRequestPin n high).laneA = s.laneA := rfl
@[simp] theorem State.setRequestPin_laneB (s : State) (n : Fin 2) (high : Bool) : (s.setRequestPin n high).laneB = s.laneB := rfl
@[simp] theorem State.setRequestPin_linkOk (s : State) (n : Fin 2) (high : Bool) : (s.setRequestPin n high).linkOk = s.linkOk := rfl
@[simp] theorem State.setRequestPin_composer (s : State) (n : Fin 2) (high : Bool) : (s.setRequestPin n high).composer = s.composer := rfl
@[simp] theorem State.setRequestPin_rx (s : State) (n : Fin 2) (high : Bool) : (s.setRequestPin n high).rx = s.rx := rfl
@[simp] theorem State.setRequestPin_peers (s : State) (n : Fin 2) (high : Bool) : (s.setRequestPin n high).peers = s.peers := rfl
@[simp] theorem State.setRequestPin_island (s : State) (n : Fin 2) (high : Bool) : (s.setRequestPin n high).island = s.island := rfl
@[simp] theorem State.setRequestPin_metering (s : State) (n : Fin 2) (high : Bool) : (s.setRequestPin n high).metering = s.metering := rfl
@[simp] theorem State.setRequestPin_regulator (s : State) (n : Fin 2) (high : Bool) : (s.setRequestPin n high).regulator = s.regulator := rfl
@[simp] theorem State.setRequestPin_seq (s : State) (n : Fin 2) (high : Bool) : (s.setRequestPin n high).seq = s.seq := rfl
@[simp] theorem State.setRequestPin_duty (s : State) (n : Fin 2) (high : Bool) : (s.setRequestPin n high).duty = s.duty := rfl
@[simp] theorem State.setRequestPin_groups (s : State) (n : Fin 2) (high : Bool) : (s.setRequestPin n high).groups = s.groups := rfl
@[simp] theorem State.setRequestPin_ladder (s : State) (n : Fin 2) (high : Bool) : (s.setRequestPin n high).ladder = s.ladder := rfl
@[simp] theorem State.setRequestPin_admission (s : State) (n : Fin 2) (high : Bool) : (s.setRequestPin n high).admission = s.admission := rfl
@[simp] theorem State.setRequestPin_loader (s : State) (n : Fin 2) (high : Bool) : (s.setRequestPin n high).loader = s.loader := rfl
@[simp] theorem State.setRequestPin_service (s : State) (n : Fin 2) (high : Bool) : (s.setRequestPin n high).service = s.service := rfl
@[simp] theorem State.setRequestPin_alarms (s : State) (n : Fin 2) (high : Bool) : (s.setRequestPin n high).alarms = s.alarms := rfl
@[simp] theorem State.setRequestPin_pending (s : State) (n : Fin 2) (high : Bool) : (s.setRequestPin n high).pending = s.pending := rfl

end Sys2Proof.Machine
end

