-- ==== Sys2Proof/Laws/Events.lean ====
section
/-! SUPPORT. What the end of an event does, said once: `State.finish` settles the card and deals with what waits at the
composer (R15 to R18, R48, R127, R177). A statement about a command whose meaning ends in `finish` is proved through
`State.Requested.followed`. -/

namespace Sys2Proof.Machine

/-! ### Taking an event -/

theorem State.Awake.awake {s : State} (h : s.Awake) : s.awake = true := by
  simp only [State.awake, State.mode, Bool.and_eq_true, bne_iff_ne]
  exact ⟨h.1, h.2⟩

theorem whileAwake_of {s : State} (h : s.Awake) (f : State → State) : whileAwake s f = .next (f s) := by
  simp [whileAwake, h.awake]

/-- A running timer's expiry acts at its own instant (00_scope 6.4). -/
theorem onExpiry_of {s : State} (h : s.Awake) {t : Timer} {d : Nat} (ht : t = some d) (f : State → State) :
    onExpiry s t f = .next (f (s.advanceTo d)) := by
  simp [onExpiry, ht, h.awake]

/-! ### Alarm latches -/

theorem AlarmKind.mem_all (k : AlarmKind) : k ∈ AlarmKind.all := by cases k <;> decide

@[simp] theorem State.mem_latchThose (s : State) (p : AlarmKind → Bool) (k : AlarmKind) :
    k ∈ (s.latchThose p).alarms.latched ↔ p k = true := by
  simp [State.latchThose, AlarmKind.mem_all]

@[simp] theorem State.relay_latchThose (s : State) (p : AlarmKind → Bool) :
    (s.latchThose p).alarms.relay = true ↔ (s.latchThose p).alarms.latched = [] := by
  simp [State.latchThose]

/-- A raised kind joins the latches, and every latch stays (R177). -/
@[simp] theorem State.mem_raise (s : State) (x k : AlarmKind) :
    k ∈ (s.raise x).alarms.latched ↔ k ∈ s.alarms.latched ∨ k = x := by simp [State.raise]

@[simp] theorem State.active_relink (s : State) (k : AlarmKind) :
    s.relink.active k = if k = .link then !linkOkOf s.conf.select s.laneA.health s.laneB.health else s.active k := by
  cases k <;> rfl

/-- The latches after the conditions have been taken up: those set, and those of the active kinds (R177). -/
theorem State.mem_syncAlarms (s : State) (k : AlarmKind) :
    k ∈ s.syncAlarms.alarms.latched ↔ k ∈ s.alarms.latched ∨ s.syncAlarms.active k = true := by
  have h : s.syncAlarms.active k = s.relink.active k := by cases k <;> rfl
  rw [h]
  unfold State.syncAlarms
  simp [State.relink]

theorem State.keepsLatches.refl (s : State) : s.keepsLatches s := fun _ h => h

theorem State.keepsLatches.trans {s t u : State} (h : s.keepsLatches t) (k : t.keepsLatches u) : s.keepsLatches u :=
  fun x hx => k x (h x hx)

theorem State.keepsLatches.of_eq {s t : State} (h : t.alarms = s.alarms) : s.keepsLatches t :=
  fun k hk => by rw [h]; exact hk

theorem State.raise_latches (s : State) (x : AlarmKind) : s.keepsLatches (s.raise x) :=
  fun k hk => (s.mem_raise x k).2 (.inl hk)

theorem State.syncAlarms_latches (s : State) : s.keepsLatches s.syncAlarms :=
  fun k hk => (s.mem_syncAlarms k).2 (.inl hk)

/-! ### Settling -/

/-- A cause gives DROOP, and without one a running timer stays: a second look changes nothing (R50). -/
theorem nextSharing_idem (m : SharingMode) (t : Timer) (c : Bool) (now : Nat) :
    nextSharing (nextSharing m t c now).1 (nextSharing m t c now).2 c now = nextSharing m t c now := by
  cases c <;> cases m <;> cases t <;> rfl

theorem State.resolve_eq (s : State) :
    s.resolve = { s with
      island := (s.resolveView.withQuantities (s.contributions s.resolveView.members s.resolveView.mode)
        s.busFrequency) } := rfl

/-- A card whose island is what a resolution gives is resolved (R48). -/
theorem State.resolved_of_island {s : State} (h : s.resolve.island = s.island) : s.resolve = s := by
  have e : s.resolve = { s with island := s.resolve.island } := rfl
  rw [e, h]

/-- The view of an island with a sharing mode and a return timer given (R40, R41, R43, R51). -/
def State.viewWith (s : State) (isl : Island) (n : SharingMode × Timer) : Island :=
  let sections := islandSections s.conf.ownSection s.island.tieView
  { isl with
    sections, members := s.membersIn sections, tieDisagree := s.disagrees, mode := n.1, returnTimer := n.2
    droopOut := decide (n.1 = SharingMode.droop) }

/-- The sharing mode and its timer as a resolution finds them (R49, R50). -/
def State.sharingNow (s : State) : SharingMode × Timer :=
  nextSharing s.island.mode s.island.returnTimer
    (s.droopCause (s.membersIn (islandSections s.conf.ownSection s.island.tieView)) s.disagrees) s.now

theorem State.resolveView_eq (s : State) : s.resolveView = s.viewWith s.island s.sharingNow := rfl

theorem State.resolve_sharingNow (s : State) : s.resolve.sharingNow = s.sharingNow :=
  nextSharing_idem s.island.mode s.island.returnTimer _ s.now

theorem State.resolveView_resolve (s : State) : s.resolve.resolveView = s.resolve.island := by
  rw [State.resolveView_eq, State.resolve_sharingNow]
  rfl

/-- A second resolution changes nothing (R48). -/
@[simp] theorem State.resolve_resolve (s : State) : s.resolve.resolve = s.resolve := by
  have h : s.resolve.contributions s.resolve.island.members s.resolve.island.mode
      = s.contributions s.resolveView.members s.resolveView.mode := rfl
  rw [State.resolve_eq s.resolve, State.resolveView_resolve, h]
  rfl

/-- What a resolution reads (R48): the island, the configuration, the peers, the composer, the own set state, the latest
record and the clock. -/
theorem State.resolve_congr {s t : State} (a : t.island = s.island) (b : t.loader = s.loader) (c : t.peers = s.peers)
    (d : t.composer = s.composer) (e : t.seq = s.seq) (f : t.metering = s.metering) (g : t.now = s.now) :
    t.resolve.island = s.resolve.island := by
  cases s; cases t
  simp only at a b c d e f g
  subst a b c d e f g
  rfl

/-- What the ladder is listed from (R126, R127): the own groups, the configuration, the peers and the members. -/
theorem State.ladderOf_congr {s t : State} (a : t.groups = s.groups) (b : t.loader = s.loader) (c : t.peers = s.peers)
    (d : t.island.members = s.island.members) : t.ladderOf = s.ladderOf := by
  simp only [State.ladderOf, State.ownEntries, State.conf, State.channel, State.own, State.entry, a, b, c, d]
  rfl

@[simp] theorem State.relist_entries (s : State) : s.relist.ladder.entries = s.ladderOf := rfl

theorem State.settle_settled (s : State) : s.settle.Settled := by
  have f := State.syncAlarms_frame s.resolve.relist
  have g : s.resolve.keepsBut s.settle [.ladder, .linkOk, .alarms] := (State.relist_frame _).comp f
  refine ⟨State.resolved_of_island ?_, ?_, rfl, fun k hk => ?_, ?_⟩
  · have e := State.resolve_congr (g .island (by decide)) (g .loader (by decide)) (g .peers (by decide))
      (g .composer (by decide)) (g .seq (by decide)) (g .metering (by decide)) (g .clock (by decide))
    rw [e, State.resolve_resolve]
    exact (g .island (by decide)).symm
  · have e : s.settle.ladder = s.resolve.relist.ladder := f .ladder (by decide)
    rw [e, State.relist_entries]
    exact (State.ladderOf_congr (f .groups (by decide)) (f .loader (by decide)) (f .peers (by decide))
      (congrArg _ (f .island (by decide)))).symm
  · exact (State.mem_syncAlarms _ k).2 (.inr hk)
  · exact State.relay_latchThose _ _

/-! ### The end of an event -/

/-- `t` stands as `s`, but that requests may have been made to the composer, that the island and the ladder's entries
may have been brought up to date, and that latches may have been set. The sharing mode and its timer that follow are the
same. -/
def State.Requested (s t : State) : Prop :=
  s.keepsBut t [.composer, .island, .ladder, .linkOk, .alarms] ∧ s.keepsLatches t
    ∧ t.composer = { s.composer with waiting := t.composer.waiting }
    ∧ t.ladder = { s.ladder with entries := t.ladder.entries }
    ∧ t.island.tieView = s.island.tieView ∧ t.island.tieFilters = s.island.tieFilters
    ∧ t.sharingNow = s.sharingNow

theorem State.Requested.refl (s : State) : s.Requested s := ⟨.refl _ _, .refl _, rfl, rfl, rfl, rfl, rfl⟩

theorem State.Requested.trans {s t u : State} (h : s.Requested t) (k : t.Requested u) : s.Requested u := by
  obtain ⟨h1, h2, h3, h4, h5, h6, h7⟩ := h
  obtain ⟨k1, k2, k3, k4, k5, k6, k7⟩ := k
  exact ⟨h1.trans k1, h2.trans k2, by rw [k3, h3], by rw [k4, h4], k5.trans h5, k6.trans h6, k7.trans h7⟩

theorem State.request_requested (s : State) (k : FrameKind) : s.Requested (s.request k) := by
  refine ⟨(s.request_frame k).mono (by decide), .of_eq ?_, ?_, ?_, ?_, ?_, ?_⟩ <;>
    (unfold State.request; split <;> rfl)

theorem State.resolve_requested (s : State) : s.Requested s.resolve :=
  ⟨s.resolve_frame.mono (by decide), .of_eq rfl, rfl, rfl, rfl, rfl, s.resolve_sharingNow⟩

theorem State.relist_requested (s : State) : s.Requested s.relist :=
  ⟨s.relist_frame.mono (by decide), .of_eq rfl, rfl, rfl, rfl, rfl, rfl⟩

theorem State.raise_requested (s : State) (k : AlarmKind) : s.Requested (s.raise k) :=
  ⟨(s.raise_frame k).mono (by decide), s.raise_latches k, rfl, rfl, rfl, rfl, rfl⟩

theorem State.setClaimState_requested (s : State) (n : Fin 2) (c : Claim) :
    (s.setClaim n c).Requested (s.setClaimState n c) := by
  unfold State.setClaimState
  dsimp only
  split
  · exact State.request_requested _ _
  · exact .refl _

theorem State.setGroupState_requested (s : State) (i : Fin 6) (st : GroupState) :
    (s.setChannel i { s.channel i with state := some st }).Requested (s.setGroupState i st) :=
  (State.request_requested _ _).trans (State.relist_requested _)

theorem State.setSetState_requested (s : State) (st : SetState) :
    State.Requested { s with
      seq := { s.seq with state := st }
      regulator := s.regulator.onState st s.inRun (perUnit s.island.ownP s.conf.rating) } (s.setSetState st) :=
  (State.request_requested _ _).trans (State.resolve_requested _)

/-! ### What waits at the composer (R15, R16) -/

/-- What waits after an urgent request: in RUN it is urgent, and in any other mode the request is not kept (R15). -/
theorem State.request_urgent_waiting (s : State) :
    (s.request .urgent).composer.waiting = if s.loader.mode = .run then some .urgent else s.composer.waiting := by
  unfold State.request State.mode mergeRequest
  split
  · dsimp only; split <;> rfl
  · rfl

/-- A change of the own set state is an urgent request (R76). -/
theorem State.setSetState_waiting (s : State) (st : SetState) :
    (s.setSetState st).composer.waiting = if s.loader.mode = .run then some .urgent else s.composer.waiting :=
  State.request_urgent_waiting _

/-- A change of an own group's state is an urgent request (R121). -/
theorem State.setGroupState_waiting (s : State) (i : Fin 6) (st : GroupState) :
    (s.setGroupState i st).composer.waiting = if s.loader.mode = .run then some .urgent else s.composer.waiting :=
  State.request_urgent_waiting _

/-- A change of an own claim's state is an urgent request where the claim is listed before or after it (R15). -/
theorem State.setClaimState_waiting (s : State) (n : Fin 2) (c : Claim) :
    (s.setClaimState n c).composer.waiting =
      if s.loader.mode = .run ∧ ((s.claim n).state.listed.isSome ∨ c.state.listed.isSome) then some .urgent
      else s.composer.waiting := by
  unfold State.setClaimState
  dsimp only
  split
  · rename_i h
    rw [State.request_urgent_waiting]
    simp only [Bool.or_eq_true] at h
    by_cases m : s.loader.mode = .run <;> simp [h, m]
  · rename_i h
    simp only [Bool.or_eq_true] at h
    simp [h]

/-! ### A composition -/

/-- What a handed-over frame does at a transmitter (R3, R4). -/
theorem LaneIf.handOver_took (l : LaneIf) (now : Nat) (f : Frame) : l.Took (l.handOver now f) now f := by
  cases l with
  | mk tx _ nextFrame _ _ _ _ _ _ quiet _ _ stuck =>
    cases tx with
    | send => cases nextFrame <;> simp [LaneIf.Took, LaneIf.handOver, bump]
    | idle =>
      cases quiet <;> cases stuck <;>
        simp [LaneIf.Took, LaneIf.handOver, LaneIf.enterDefer, LaneIf.enterSend, LaneIf.isIdle]
    | _ => rfl

/-- A composition hands its frame to each lane (R3). -/
theorem State.lane_compose (s : State) (k : FrameKind) (l : LaneId) :
    (s.compose k).lane l = (s.lane l).handOver s.now (s.composedFrame k) := by cases l <;> rfl

/-- The composer after a composition (R16 to R18). -/
theorem State.compose_composer (s : State) (k : FrameKind) : (s.compose k).composer = { s.composer with
    nextNumber := if s.composer.nextNumber = 255 then 1 else s.composer.nextNumber + 1
    spacing := some (s.now + 10000), waiting := none, arrival := false
    lastP := (s.composedFrame k).content.p, lastQ := (s.composedFrame k).content.q
    lastFrequency := (s.composedFrame k).content.frequency
    staleCount := if s.composer.arrival = true then 0 else min 255 (s.composer.staleCount + 1)
    freshCount := if s.composer.arrival = true then s.composer.freshCount else 0
    meterFail := if s.composer.arrival = true then s.composer.meterFail && s.composer.freshCount != 2
      else s.composer.meterFail || decide (2 ≤ s.composer.staleCount) } := by
  have e : decide (3 ≤ bump8 s.composer.staleCount) = decide (2 ≤ s.composer.staleCount) := by
    unfold bump8; exact decide_eq_decide.2 (by omega)
  simp only [State.compose, Composer.judge]
  split
  · rfl
  · simp only [e]; rfl

/-- The frame is the same one for a card that has only been asked for it (R17). -/
theorem State.Requested.composedFrame {s t : State} (h : s.Requested t) (k : FrameKind) :
    t.resolve.composedFrame k = s.resolve.composedFrame k := by
  obtain ⟨h1, -, h3, h4, h5, -, h7⟩ := h
  have lo : t.loader = s.loader := h1 .loader (by decide)
  have me : t.metering = s.metering := h1 .metering (by decide)
  have se : t.seq = s.seq := h1 .seq (by decide)
  have pi : t.pins = s.pins := h1 .pins (by decide)
  have gr : t.groups = s.groups := h1 .groups (by decide)
  have ad : t.admission = s.admission := h1 .admission (by decide)
  have v : t.resolve.sentValues = s.resolve.sentValues := by
    show t.sentValues = s.sentValues
    unfold State.sentValues; rw [h3, me]
  have co : t.resolve.composer = t.composer := rfl
  have tv : t.resolve.island.tieView = s.resolve.island.tieView := h5
  have fg : t.resolve.frameGroups = s.resolve.frameGroups := by
    show t.frameGroups = s.frameGroups
    simp only [State.frameGroups, State.groupRecord, State.conf, State.channel, lo, gr]
  have fc : t.resolve.frameClaims = s.resolve.frameClaims := by
    show t.frameClaims = s.frameClaims
    simp only [State.frameClaims, State.demand, State.conf, State.claim, lo, ad]
  have n : t.resolve.composer.nextNumber = s.resolve.composer.nextNumber := by
    show t.composer.nextNumber = s.composer.nextNumber; rw [h3]
  have a : t.resolve.composer.arrival = s.resolve.composer.arrival := by
    show t.composer.arrival = s.composer.arrival; rw [h3]
  have ag : t.resolve.ladder.actionAge = s.resolve.ladder.actionAge := by
    show t.ladder.actionAge = s.ladder.actionAge; rw [h4]
  have ow : t.resolve.own = s.resolve.own := by
    show t.own = s.own; simp only [State.own, State.conf, lo]
  have cf : t.resolve.conf = s.resolve.conf := by show t.conf = s.conf; simp only [State.conf, lo]
  have fl : t.resolve.configFault = s.resolve.configFault := by
    show t.configFault = s.configFault; simp only [State.configFault, lo]
  have mo : t.resolve.island.mode = s.resolve.island.mode := congrArg Prod.fst h7
  have sq : t.resolve.seq = s.resolve.seq := se
  have pp : t.resolve.pins = s.resolve.pins := pi
  simp only [State.composedFrame, State.frameContent, v, n, a, ag, ow, cf, fl, sq, pp, tv, fg, fc, mo]

/-! ### What an event's end makes of the card -/

theorem State.flush_tie (s : State) : s.flush.island.tieView = s.island.tieView
    ∧ s.flush.island.tieFilters = s.island.tieFilters := by
  unfold State.flush State.compose
  split
  · simp only [Island.refreshOwn]; split <;> exact ⟨rfl, rfl⟩
  · exact ⟨rfl, rfl⟩

/-- The sharing mode looked at with METER_FAIL as `y`, and again at the same instant with METER_FAIL as `x`; `o` and `q` are
the other causes (R49, R50). -/
theorem nextSharing_twice (m : SharingMode) (t : Timer) (o q x y : Bool) (now : Nat) :
    let a := nextSharing m t (o || y || q) now
    let b := nextSharing a.1 a.2 (o || x || q) now
    (x = y → b.1 = a.1 ∧ b.2 = a.2) ∧ (x ≠ y → b.1 = .droop ∧ (b.2 = none ∨ b.2 = some (now + 2000000))) := by
  cases o <;> cases q <;> cases x <;> cases y <;> cases m <;> cases t <;> simp [nextSharing, returnTime, ms]

/-- What the composition at an event's end makes of the sharing mode (R18, R49, R50). -/
theorem State.flush_shared (s : State) : s.Shared s.resolve.flush.settle := by
  have ld : s.resolve.flush.loader = s.loader := s.resolve.flush_frame .loader (by decide)
  have pe : s.resolve.flush.peers = s.peers := s.resolve.flush_frame .peers (by decide)
  have cause : s.resolve.flush.droopCause s.resolve.island.members s.disagrees =
      (s.disagrees || s.resolve.island.members.any (fun i => i != s.own && (s.entry i).state == .phantom)
        || s.resolve.flush.composer.meterFail || s.mode != .run) := by
    simp only [State.droopCause, State.own, State.conf, State.entry, State.mode, ld, pe]
  have key : s.resolve.flush.sharingNow = nextSharing s.sharingNow.1 s.sharingNow.2
      (s.resolve.flush.droopCause s.resolve.island.members s.disagrees) s.now := by
    unfold State.flush State.compose
    split
    · simp only [Island.refreshOwn]; split <;> rfl
    · rfl
  unfold State.Shared
  rw [show s.resolve.flush.settle.island.mode = s.resolve.flush.sharingNow.1 from rfl,
    show s.resolve.flush.settle.island.returnTimer = s.resolve.flush.sharingNow.2 from rfl,
    show s.resolve.flush.settle.composer = s.resolve.flush.composer from
      s.resolve.flush.settle_frame .composer (by decide), key, cause]
  exact nextSharing_twice s.island.mode s.island.returnTimer _ _ _ _ s.now

/-- Bringing the card up to date leaves it settled. -/
theorem State.settle_settles (s : State) : s.Settles s.settle :=
  ⟨s.settle_frame.mono (by decide), fun k hk => (State.mem_syncAlarms _ k).2 (.inl hk), State.settle_settled s, rfl, rfl,
    rfl, fun _ => ⟨rfl, rfl⟩, fun h => absurd (congrArg Composer.meterFail (s.settle_frame .composer (by decide))) h⟩

/-- The end of an event leaves the card settled. -/
theorem State.Requested.settles {s t : State} (h : s.Requested t) : s.Settles t.finish := by
  obtain ⟨h1, h2, h3, h4, h5, h6, h7⟩ := h
  have fl : t.resolve.flush.ladder = t.ladder := t.resolve.flush_frame .ladder (by decide)
  refine ⟨(h1.mono (by decide)).trans t.finish_frame, ?_, State.settle_settled _, ?_, ?_, ?_, ?_⟩
  · refine h2.trans (State.keepsLatches.trans (t := t.resolve.flush) (.of_eq ?_) ?_)
    · exact t.resolve.flush_frame .alarms (by decide)
    · exact fun k hk => (State.mem_syncAlarms _ k).2 (.inl hk)
  · show t.finish.ladder = _
    have e : t.finish.ladder = { t.resolve.flush.ladder with entries := t.finish.ladder.entries } := rfl
    rw [e, fl, h4]
  · rw [← h5]; exact t.resolve.flush_tie.1
  · rw [← h6]; exact t.resolve.flush_tie.2
  · have f := t.flush_shared
    have n : t.now = s.now := h1 .clock (by decide)
    have c : t.composer.meterFail = s.composer.meterFail := by rw [h3]
    have m : t.resolve.island.mode = s.resolve.island.mode := congrArg Prod.fst h7
    have r : t.resolve.island.returnTimer = s.resolve.island.returnTimer := congrArg Prod.snd h7
    unfold State.Shared at f ⊢
    rw [c, m, r, n] at f
    exact f

/-- The end of an event deals with what waits at the composer (R16). -/
theorem State.Requested.dealtWith {s t : State} (h : s.Requested t) :
    s.DealtWith t.finish t.composer.waiting := by
  have a : t.laneA = s.laneA := h.1 .laneA (by decide)
  have b : t.laneB = s.laneB := h.1 .laneB (by decide)
  have n : t.resolve.now = s.now := h.1 .clock (by decide)
  have la : t.finish.laneA = t.resolve.flush.laneA := t.resolve.flush.settle_frame .laneA (by decide)
  have lb : t.finish.laneB = t.resolve.flush.laneB := t.resolve.flush.settle_frame .laneB (by decide)
  have co : t.finish.composer = t.resolve.flush.composer := t.resolve.flush.settle_frame .composer (by decide)
  have h3 := h.2.2.1
  have sp : t.composer.spacing = s.composer.spacing := by rw [h3]
  have ln : ∀ l, t.finish.lane l = t.resolve.flush.lane l := fun l => by cases l <;> assumption
  have ls : ∀ l, t.resolve.lane l = s.lane l := fun l => by cases l <;> assumption
  unfold State.DealtWith
  have fe : t.resolve.flush = match t.composer.waiting, t.composer.spacing with
    | some k, none => t.resolve.compose k
    | _, _ => t.resolve := rfl
  rw [sp] at fe
  split
  · rename_i k hw hs
    rw [hw, hs] at fe
    simp only at fe
    refine ⟨⟨fun l => ?_, ?_⟩, ?_⟩
    · rw [ln, fe, State.lane_compose, ← h.composedFrame k, ls, n]
      exact LaneIf.handOver_took _ _ _
    · rw [co, fe, State.compose_composer, ← h.composedFrame k, n]
      simp only [show t.resolve.composer = t.composer from rfl]
      rw [h3]
    · rw [co, fe, State.compose_composer]
  · rename_i hne
    have e : t.resolve.flush = t.resolve := by
      rw [fe]
      split
      · rename_i k hk hs; exact absurd hs (hne k hk)
      · rfl
    rw [la, lb, co, e]
    exact ⟨a, b, h3⟩

theorem State.finish_settles (s : State) : s.Settles s.finish := (State.Requested.refl s).settles

/-- A composition stands for every later state that has the lanes and, but for what waits, the composer of it. -/
theorem State.Composed.later {b t u : State} {k : FrameKind} (h : b.Composed t k) (l : ∀ l, u.lane l = t.lane l)
    (c : u.composer = { t.composer with waiting := u.composer.waiting }) : b.Composed u k := by
  obtain ⟨h1, h2⟩ := h
  exact ⟨fun x => by rw [l]; exact h1 x, by rw [c, h2]⟩

/-- While the spacing timer runs the end of an event composes nothing (R16). -/
theorem State.finish_held (s : State) (h : s.composer.spacing ≠ none) :
    s.finish.laneA = s.laneA ∧ s.finish.laneB = s.laneB ∧ s.finish.composer = s.composer := by
  have q := (State.Requested.refl s).dealtWith
  unfold State.DealtWith at q
  split at q
  · rename_i k hw hs; exact absurd hs h
  · exact q

/-- A composition made within an event, before its end (R87, R168, log entry 7): `u` has asked for it, and `v` is what the
rest of the event makes of the card, with what it has asked for in turn waiting. -/
theorem State.Requested.composed_early {b u v : State} {k : FrameKind} (h : b.Requested u) (r : u.resolve = u)
    (w : u.composer.waiting = some k) (hs : b.composer.spacing = none) (l : ∀ l, v.lane l = u.flush.lane l)
    (c : v.composer = { u.flush.composer with waiting := v.composer.waiting }) :
    b.Composed v.finish k ∧ v.finish.composer.waiting = v.composer.waiting := by
  have q := h.dealtWith
  unfold State.DealtWith at q
  rw [w, hs] at q
  have e : u.finish = u.flush.settle := by unfold State.finish; rw [r]
  rw [e] at q
  have sp : v.composer.spacing ≠ none := by
    have k1 : u.flush.composer.spacing = u.flush.settle.composer.spacing := by simp
    rw [c]; dsimp only
    rw [k1, q.1.2]; simp
  obtain ⟨la, lb, co⟩ := v.finish_held sp
  have fa : v.laneA = u.flush.laneA := l .a
  have fb : v.laneB = u.flush.laneB := l .b
  refine ⟨q.1.later (fun l => ?_) ?_, by rw [co]⟩
  · cases l
    · show v.finish.laneA = u.flush.settle.laneA; rw [la, fa]; simp
    · show v.finish.laneB = u.flush.settle.laneB; rw [lb, fb]; simp
  · rw [co]; simpa using c

/-- The sharing mode where a composition has been made within an event, before its end: `v` is what the rest of the event
makes of the card, without another composition (R50, R87, R168, log entry 7). -/
theorem State.Requested.shared_early {b u v : State} (h : b.Requested u) (r : u.resolve = u)
    (m : v.sharingNow = u.flush.sharingNow) (c : v.composer = { u.flush.composer with waiting := v.composer.waiting })
    (hs : v.composer.spacing ≠ none) : b.Shared v.finish := by
  have f := h.settles.2.2.2.2.2.2
  have e : u.finish = u.flush.settle := by unfold State.finish; rw [r]
  have k : v.resolve.flush = v.resolve := by
    unfold State.flush
    split
    · rename_i hn; exact absurd hn hs
    · rfl
  have x : v.finish.composer.meterFail = u.flush.settle.composer.meterFail := by
    rw [(v.finish_held hs).2.2, c]; simp
  have y : v.finish.island.mode = u.flush.settle.island.mode := by
    unfold State.finish; rw [k]
    exact congrArg Prod.fst (v.resolve_sharingNow.trans m)
  have z : v.finish.island.returnTimer = u.flush.settle.island.returnTimer := by
    unfold State.finish; rw [k]
    exact congrArg Prod.snd (v.resolve_sharingNow.trans m)
  rw [e] at f
  unfold State.Shared at f ⊢
  rw [x, y, z]
  exact f

/-- Whether a change is reported at once shows in the set state, the group channels and the claims alone (R15). -/
theorem State.urges_congr {s b t : State} (q : t.seq = b.seq) (g : t.groups = b.groups)
    (a : t.admission = b.admission) : s.Urges t ↔ s.Urges b := by
  simp only [State.Urges, State.channel, State.claim, q, g, a]

theorem State.Requested.urges_finish {s b t : State} (h : b.Requested t) : s.Urges t.finish ↔ s.Urges b :=
  State.urges_congr ((h.1 .seq (by decide)).trans (t.finish_frame .seq (by decide)))
    ((h.1 .groups (by decide)).trans (t.finish_frame .groups (by decide)))
    ((h.1 .admission (by decide)).trans (t.finish_frame .admission (by decide)))

/-- The end of an event that has left the card as `b`, with a change that is reported at once (R15, R16). -/
theorem State.Requested.followed_urgent {s b t : State} (h : b.Requested t) (u : s.Urges b)
    (w : t.composer.waiting = if b.loader.mode = .run then some .urgent else b.composer.waiting) :
    s.Followed b t.finish := by
  refine ⟨h.settles, fun m _ => ?_, fun n => ?_⟩
  · rw [if_pos m] at w; rw [← w]; exact h.dealtWith
  · rcases n with n | n
    · rw [if_neg n] at w; rw [← w]; exact h.dealtWith
    · exact absurd (h.urges_finish.2 u) n

/-- The end of an event that has left the card as `b`, without such a change (R15, R16). -/
theorem State.Requested.followed_plain {s b t : State} (h : b.Requested t) (u : ¬ s.Urges b)
    (w : t.composer.waiting = b.composer.waiting) : s.Followed b t.finish :=
  ⟨h.settles, fun _ k => absurd (h.urges_finish.1 k) u, fun _ => by rw [← w]; exact h.dealtWith⟩

/-- What the end of an event makes of a card that has made the requests due from the change since `s`. -/
theorem State.Requested.followed {s b t : State} (h : b.Requested t)
    (u : b.loader.mode = .run → s.Urges t.finish → t.composer.waiting = some .urgent)
    (n : b.loader.mode ≠ .run ∨ ¬ s.Urges t.finish → t.composer.waiting = b.composer.waiting) :
    s.Followed b t.finish :=
  ⟨h.settles, fun a c => by rw [← u a c]; exact h.dealtWith, fun a => by rw [← n a]; exact h.dealtWith⟩

/-- The end of an event that has changed the own set state alone of what is reported at once (R15, R76). -/
theorem State.setSetState_followed {s u : State} {st : SetState} (h : st ≠ s.seq.state) :
    s.Followed { u with
      seq := { u.seq with state := st }
      regulator := u.regulator.onState st u.inRun (perUnit u.island.ownP u.conf.rating) } (u.setSetState st).finish :=
  (u.setSetState_requested st).followed_urgent (.inl h) (u.setSetState_waiting st)

/-- The end of an event that has changed an own group's state (R15, R121). -/
theorem State.setGroupState_followed {s u : State} {i : Fin 6} {st : GroupState}
    (h : some st ≠ (s.channel i).state) :
    s.Followed (u.setChannel i { u.channel i with state := some st }) (u.setGroupState i st).finish :=
  (u.setGroupState_requested i st).followed_urgent (.inr (.inl ⟨i, by rw [State.channel_setChannel]; exact h⟩))
    (u.setGroupState_waiting i st)

end Sys2Proof.Machine
end

