-- ==== Sys2Proof/Laws/Groups.lean ====
section
/-! SUPPORT. What the group channels' commands, the slow step and a change of the own set state do to the card, each
said once (R76, R112 to R116, R134, R143). -/

namespace Sys2Proof.Machine

/-! ### What the end of an event leaves alone -/

@[simp] theorem State.finish_now (s : State) : s.finish.now = s.now := s.finish_frame .clock (by decide)
@[simp] theorem State.finish_powered (s : State) : s.finish.powered = s.powered := s.finish_frame .supply (by decide)
@[simp] theorem State.finish_pins (s : State) : s.finish.pins = s.pins := s.finish_frame .pins (by decide)
@[simp] theorem State.finish_rx (s : State) : s.finish.rx = s.rx := s.finish_frame .rx (by decide)
@[simp] theorem State.finish_peers (s : State) : s.finish.peers = s.peers := s.finish_frame .peers (by decide)
@[simp] theorem State.finish_metering (s : State) : s.finish.metering = s.metering := s.finish_frame .metering (by decide)
@[simp] theorem State.finish_regulator (s : State) : s.finish.regulator = s.regulator := s.finish_frame .regulator (by decide)
@[simp] theorem State.finish_seq (s : State) : s.finish.seq = s.seq := s.finish_frame .seq (by decide)
@[simp] theorem State.finish_duty (s : State) : s.finish.duty = s.duty := s.finish_frame .duty (by decide)
@[simp] theorem State.finish_groups (s : State) : s.finish.groups = s.groups := s.finish_frame .groups (by decide)
@[simp] theorem State.finish_admission (s : State) : s.finish.admission = s.admission := s.finish_frame .admission (by decide)
@[simp] theorem State.finish_loader (s : State) : s.finish.loader = s.loader := s.finish_frame .loader (by decide)
@[simp] theorem State.finish_service (s : State) : s.finish.service = s.service := s.finish_frame .service (by decide)
@[simp] theorem State.finish_pending (s : State) : s.finish.pending = s.pending := s.finish_frame .queue (by decide)

/-- Of the ladder the end of an event rewrites the entries alone (R127). -/
theorem State.finish_ladder (s : State) : s.finish.ladder = { s.ladder with entries := s.finish.ladder.entries } :=
  s.finish_settles.2.2.2.1

theorem State.finish_latches (s : State) : s.keepsLatches s.finish := s.finish_settles.2.1

/-- At the end of an event every active kind's latch is set (R177). -/
theorem State.finish_settled (s : State) : s.finish.Settled := s.finish_settles.2.2.1

/-! ### A change of the own set state -/

@[simp] theorem State.setSetState_now (s : State) (st : SetState) : (s.setSetState st).now = s.now :=
  (s.setSetState_frame st) .clock (by decide)
@[simp] theorem State.setSetState_powered (s : State) (st : SetState) : (s.setSetState st).powered = s.powered :=
  (s.setSetState_frame st) .supply (by decide)
@[simp] theorem State.setSetState_pins (s : State) (st : SetState) : (s.setSetState st).pins = s.pins :=
  (s.setSetState_frame st) .pins (by decide)
@[simp] theorem State.setSetState_rx (s : State) (st : SetState) : (s.setSetState st).rx = s.rx :=
  (s.setSetState_frame st) .rx (by decide)
@[simp] theorem State.setSetState_peers (s : State) (st : SetState) : (s.setSetState st).peers = s.peers :=
  (s.setSetState_frame st) .peers (by decide)
@[simp] theorem State.setSetState_metering (s : State) (st : SetState) : (s.setSetState st).metering = s.metering :=
  (s.setSetState_frame st) .metering (by decide)
@[simp] theorem State.setSetState_duty (s : State) (st : SetState) : (s.setSetState st).duty = s.duty :=
  (s.setSetState_frame st) .duty (by decide)
@[simp] theorem State.setSetState_groups (s : State) (st : SetState) : (s.setSetState st).groups = s.groups :=
  (s.setSetState_frame st) .groups (by decide)
@[simp] theorem State.setSetState_ladder (s : State) (st : SetState) : (s.setSetState st).ladder = s.ladder :=
  (s.setSetState_frame st) .ladder (by decide)
@[simp] theorem State.setSetState_admission (s : State) (st : SetState) : (s.setSetState st).admission = s.admission :=
  (s.setSetState_frame st) .admission (by decide)
@[simp] theorem State.setSetState_loader (s : State) (st : SetState) : (s.setSetState st).loader = s.loader :=
  (s.setSetState_frame st) .loader (by decide)
@[simp] theorem State.setSetState_service (s : State) (st : SetState) : (s.setSetState st).service = s.service :=
  (s.setSetState_frame st) .service (by decide)
@[simp] theorem State.setSetState_alarms (s : State) (st : SetState) : (s.setSetState st).alarms = s.alarms :=
  (s.setSetState_frame st) .alarms (by decide)
@[simp] theorem State.setSetState_pending (s : State) (st : SetState) : (s.setSetState st).pending = s.pending :=
  (s.setSetState_frame st) .queue (by decide)

@[simp] theorem State.setSetState_seq (s : State) (st : SetState) : (s.setSetState st).seq = { s.seq with state := st } :=
  (State.setSetState_requested s st).1 .seq (by decide)

@[simp] theorem State.setSetState_regulator (s : State) (st : SetState) :
    (s.setSetState st).regulator = s.regulator.onState st s.inRun (perUnit s.island.ownP s.conf.rating) :=
  (State.setSetState_requested s st).1 .regulator (by decide)

/-! ### Group channels and the ladder -/

/-- As `State.Requested`, where the group channels and the ladder may have moved too. -/
def State.MovedBlocks (s t : State) : Prop := State.Requested { s with groups := t.groups, ladder := t.ladder } t

theorem State.MovedBlocks.refl (s) : State.MovedBlocks s s := State.Requested.refl s

theorem State.MovedBlocks.trans {s t u} (h : State.MovedBlocks s t) (k : State.MovedBlocks t u) :
    State.MovedBlocks s u := by
  obtain ⟨h1, h2, h3, h4, h5, h6, h7⟩ := h
  obtain ⟨k1, k2, k3, k4, k5, k6, k7⟩ := k
  refine ⟨?_, ?_, by rw [k3, h3], rfl, k5.trans h5, k6.trans h6, k7.trans h7⟩
  · intro b hb
    have a := h1 b hb; have c := k1 b hb
    cases b <;> first | rfl | (exact absurd (by decide) hb) | exact Eq.trans c a
  · exact fun x hx => k2 x (h2 x hx)

theorem State.MovedBlocks.of_requested {s t} (h : State.Requested s t) : State.MovedBlocks s t := by
  obtain ⟨h1, h2, h3, h4, h5, h6, h7⟩ := h
  refine ⟨?_, h2, h3, rfl, h5, h6, h7⟩
  intro b hb
  have a := h1 b hb
  cases b <;> first | rfl | (exact absurd (by decide) hb) | exact a

/-- A command of the ladder takes a group from CONNECTED to SHED_PENDING, or from SHED to RESTORE_PENDING, and no other
way (R112, R114). -/
def Commanded (a b : Option GroupState) : Prop :=
  b = a ∨ (a = some .connected ∧ b = some .shedPending) ∨ (a = some .shed ∧ b = some .restorePending)

theorem Commanded.trans {a b c : Option GroupState} (h : Commanded a b) (k : Commanded b c) :
    Commanded a c ∧ (c = a → b = a) := by
  unfold Commanded at *
  rcases h with rfl | ⟨rfl, rfl⟩ | ⟨rfl, rfl⟩
  · exact ⟨k, fun _ => rfl⟩
  · rcases k with rfl | ⟨k, -⟩ | ⟨k, -⟩
    · simp
    · simp at k
    · simp at k
  · rcases k with rfl | ⟨k, -⟩ | ⟨k, -⟩
    · simp
    · simp at k
    · simp at k

/-- As `State.MovedBlocks`, where the groups have moved by commands of the ladder alone: in RUN a moved group has made an
urgent request, and where none has moved there is no request (R15, R121). -/
def State.MovedGroups (s t : State) : Prop :=
  State.MovedBlocks s t
    ∧ (∀ i, Commanded (s.channel i).state (t.channel i).state)
    ∧ ((∀ i, (t.channel i).state = (s.channel i).state) → t.composer.waiting = s.composer.waiting)
    ∧ ((∃ i, (t.channel i).state ≠ (s.channel i).state) →
        t.composer.waiting = if s.loader.mode = .run then some .urgent else s.composer.waiting)

theorem State.MovedGroups.loader {s t} (h : State.MovedGroups s t) : t.loader = s.loader := h.1.1 .loader (by decide)

theorem State.MovedGroups.refl (s) : State.MovedGroups s s :=
  ⟨.refl s, fun _ => .inl rfl, fun _ => rfl, fun h => absurd rfl h.choose_spec⟩

theorem State.MovedGroups.trans {s t u} (h : State.MovedGroups s t) (k : State.MovedGroups t u) :
    State.MovedGroups s u := by
  have lo := h.loader
  obtain ⟨h1, h2, h3, h4⟩ := h
  obtain ⟨k1, k2, k3, k4⟩ := k
  have c i := (h2 i).trans (k2 i)
  refine ⟨h1.trans k1, fun i => (c i).1, fun e => ?_, fun ⟨i, hi⟩ => ?_⟩
  · have e1 i := (c i).2 (e i)
    rw [k3 (fun i => (e i).trans (e1 i).symm), h3 e1]
  · rw [lo] at k4
    by_cases a : ∃ i, (t.channel i).state ≠ (s.channel i).state
    · have w := h4 a
      by_cases b : ∃ i, (u.channel i).state ≠ (t.channel i).state
      · rw [k4 b, w]; split <;> rfl
      · rw [k3 (by simpa using b), w]
    · have e : ∀ i, (t.channel i).state = (s.channel i).state := by simpa using a
      rw [k4 ⟨i, by rw [e i]; exact hi⟩, h3 e]

/-- A change of the ladder's own fields, of the pulses, the windows and the marks moves no group (R15). -/
theorem State.MovedGroups.both (s : State) (g : Groups) (l) (h : ∀ i : Fin 6, g.channels[i].state = (s.channel i).state) :
    State.MovedGroups s { s with groups := g, ladder := l } :=
  ⟨State.Requested.refl _, fun i => .inl (h i), fun _ => rfl, fun k => absurd (h _) k.choose_spec⟩

theorem State.MovedGroups.ladder (s : State) (l) : State.MovedGroups s { s with ladder := l } :=
  State.MovedGroups.both s s.groups l fun _ => rfl

/-- A channel replaced by one in the same state. -/
theorem State.MovedGroups.channel (s : State) (i : Fin 6) (c : Channel) (h : c.state = (s.channel i).state) :
    State.MovedGroups s (s.setChannel i c) :=
  State.MovedGroups.both s (s.setChannel i c).groups s.ladder fun j => by
    by_cases e : i = j
    · subst e; exact (congrArg Channel.state (s.channel_setChannel i c)).trans h
    · exact congrArg Channel.state (s.channel_setChannel_ne c e)

theorem State.MovedGroups.of_requested {s t} (h : State.Requested s t)
    (w : t.composer.waiting = s.composer.waiting) : State.MovedGroups s t := by
  have g : t.groups = s.groups := h.1 .groups (by decide)
  have c i : t.channel i = s.channel i := by simp only [State.channel, g]
  exact ⟨.of_requested h, fun i => .inl (by rw [c]), fun _ => w, fun k => absurd (by rw [c]) k.choose_spec⟩

/-- What the end of an event makes of a card in which no more than a command of the ladder has moved a group, where the
own set and the own claims stand (R15, R16). -/
theorem State.MovedGroups.followed {s b t : State} (h : State.MovedGroups b t) (q : b.seq.state = s.seq.state)
    (g : b.groups = s.groups) (a : b.admission = s.admission) :
    s.Followed { b with groups := t.finish.groups, ladder := t.finish.ladder } t.finish := by
  obtain ⟨h1, h2, h3, h4⟩ := h
  have tg : t.finish.groups = t.groups := t.finish_groups
  have tq : t.finish.seq = b.seq := t.finish_seq.trans (h1.1 .seq (by decide))
  have ta : t.finish.admission = b.admission := t.finish_admission.trans (h1.1 .admission (by decide))
  have cl n : t.finish.claim n = s.claim n := by simp only [State.claim, ta, a]
  have cb i : b.channel i = s.channel i := by simp only [State.channel, g]
  have ct i : t.finish.channel i = t.channel i := by simp only [State.channel, tg]
  have u : s.Urges t.finish ↔ ∃ i, (t.channel i).state ≠ (b.channel i).state := by
    unfold State.Urges; rw [tq]; simp [q, cl, cb, ct]
  have hb : State.Requested { b with groups := t.groups, ladder := t.finish.ladder } t := by
    obtain ⟨p1, p2, p3, p4, p5, p6, p7⟩ := h1
    refine ⟨?_, p2, p3, ?_, p5, p6, p7⟩
    · intro b hb
      have a := p1 b hb
      cases b <;> first | rfl | (exact absurd (by decide) hb) | exact a
    · rw [t.finish_ladder]
  rw [tg]
  refine hb.followed (fun m k => ?_) (fun k => ?_)
  · rw [h4 (u.1 k)]; exact if_pos m
  · by_cases e : ∃ i, (t.channel i).state ≠ (b.channel i).state
    · have m : ¬ b.loader.mode = .run := by
        rcases k with k | k
        · exact k
        · exact absurd (u.2 e) k
      rw [h4 e, if_neg m]
    · exact h3 (by simpa using e)

/-- A group that a command of the ladder moves (R112, R114). -/
theorem State.setGroupState_moves (s : State) (i st) (h : Commanded (s.channel i).state (some st))
    (ne : some st ≠ (s.channel i).state) : State.MovedGroups s (s.setGroupState i st) := by
  have g := State.setGroupState_requested s i st
  have cg : (s.setGroupState i st).groups = (s.setChannel i { s.channel i with state := some st }).groups :=
    g.1 .groups (by decide)
  have ci : (s.setGroupState i st).channel i = { s.channel i with state := some st } := by
    simp only [State.channel, cg]; exact s.channel_setChannel i _
  have cj {j} (hj : i ≠ j) : (s.setGroupState i st).channel j = s.channel j := by
    simp only [State.channel, cg]; exact s.channel_setChannel_ne _ hj
  have mb : State.MovedBlocks s (s.setChannel i { s.channel i with state := some st }) := State.Requested.refl _
  refine ⟨mb.trans (State.MovedBlocks.of_requested g), fun j => ?_, fun e => ?_, fun _ => State.setGroupState_waiting s i st⟩
  · by_cases hj : i = j
    · subst hj; rw [ci]; exact h
    · rw [cj hj]; exact .inl rfl
  · exact absurd ((congrArg Channel.state ci).symm.trans (e i)) ne

theorem State.MovedGroups.spacing (s : State) (x : Timer) :
    State.MovedGroups s { s with groups := { s.groups with closeSpacing := x } } :=
  State.MovedGroups.both s _ s.ladder fun _ => rfl

theorem State.startTrip_moves (s : State) (i) : State.MovedGroups s (s.startTrip i) :=
  (State.MovedGroups.channel s i { s.channel i with trip := s.after breakerPulse, tripHeld := false } rfl).trans
    (State.MovedGroups.spacing _ _)

theorem State.startClose_moves (s : State) (i) : State.MovedGroups s (s.startClose i) :=
  (State.MovedGroups.channel s i { s.channel i with close := s.after breakerPulse } rfl).trans
    (State.MovedGroups.spacing _ _)

theorem State.issueTrip_moves (s : State) (i) : State.MovedGroups s (s.issueTrip i) := by
  unfold State.issueTrip; split
  · exact State.MovedGroups.channel s i _ rfl
  · exact State.startTrip_moves s i

theorem State.startWindow_moves (s : State) (i) : State.MovedGroups s (s.startWindow i) :=
  State.MovedGroups.channel s i _ rfl

theorem State.takeShed_moves (s : State) (i) : State.MovedGroups s (s.takeShed i) := by
  unfold State.takeShed; split
  · rename_i h
    exact (State.setGroupState_moves s i _ (.inr (.inl ⟨h, rfl⟩)) (by simp [h])).trans
      ((State.startWindow_moves _ i).trans (State.issueTrip_moves _ i))
  · exact State.MovedGroups.refl s

theorem State.takeRestore_moves (s : State) (i) : State.MovedGroups s (s.takeRestore i) := by
  unfold State.takeRestore; split
  · rename_i h
    exact (State.setGroupState_moves s i _ (.inr (.inr ⟨h.1, rfl⟩)) (by simp [h.1])).trans
      ((State.startWindow_moves _ i).trans (State.startClose_moves _ i))
  · exact State.MovedGroups.refl s

theorem State.commandShed_moves (s : State) (i) : State.MovedGroups s (s.commandShed i) :=
  (State.MovedGroups.ladder s _).trans (State.takeShed_moves _ i)

theorem State.commandRestore_moves (s : State) (i) : State.MovedGroups s (s.commandRestore i) :=
  (State.MovedGroups.ladder s _).trans (State.takeRestore_moves _ i)

theorem State.raise_moves (s : State) (k) : State.MovedGroups s (s.raise k) :=
  State.MovedGroups.of_requested (State.raise_requested s k) rfl

theorem State.takeStep_moves (s : State) : State.MovedGroups s s.takeStep := by
  unfold State.takeStep; split
  · exact State.raise_moves s _
  · split
    · exact State.commandShed_moves s _
    · exact State.MovedGroups.ladder s _

theorem State.nextStep_moves (s : State) : State.MovedGroups s s.nextStep := by
  unfold State.nextStep; split
  · exact (State.MovedGroups.ladder s _).trans (State.takeStep_moves _)
  · exact State.MovedGroups.refl s

theorem State.requestStep_moves (s : State) : State.MovedGroups s s.requestStep := by
  unfold State.requestStep; split
  · exact State.takeStep_moves _
  · exact State.MovedGroups.ladder s _

theorem State.syncLadder_moves (s : State) : State.MovedGroups s s.syncLadder := by
  unfold State.syncLadder
  dsimp only
  split
  · exact State.MovedGroups.ladder s _
  · split
    · exact State.MovedGroups.ladder s _
    · exact (State.MovedGroups.ladder s _).trans ((State.MovedGroups.ladder _ _).trans (State.nextStep_moves _))

theorem State.spread_moves (s : State) : State.MovedGroups s s.spread := (State.MovedGroups.of_requested s.resolve_requested rfl).trans (State.syncLadder_moves _)


end Sys2Proof.Machine
end

