-- ==== Sys2Proof/Laws/Ladder.lean ====
section
/-! SUPPORT. What a shed command, the slow step, a change among the peers or the ties, and a block shed do to the groups
and the ladder, each said once in the terms of `Safety` (R112, R116, R127, R128, R133 to R135, R138 to R140). -/

namespace Sys2Proof.Machine

/-! ### A shed command at a channel -/

/-- The eligible entries, as the statements say it (R128). -/
theorem Ladder.eligible_eq (l : Ladder) :
    l.eligible = fun e => decide (e.state = .connected ∧ e.key ∉ l.skip) := by
  funext e
  by_cases h : e.state = .connected <;> by_cases k : e.key ∈ l.skip <;> simp [Ladder.eligible, h, k]

/-- A group that is not CONNECTED takes no shed command (R112). -/
theorem State.takeShed_of_ne {s : State} {i : Fin 6} (h : (s.channel i).state ≠ some .connected) : s.takeShed i = s := by
  simp [State.takeShed, h]

@[simp] theorem State.setGroupState_now (s : State) (i : Fin 6) (st : GroupState) : (s.setGroupState i st).now = s.now :=
  (s.setGroupState_frame i st) .clock (by decide)

@[simp] theorem State.setGroupState_groups (s : State) (i : Fin 6) (st : GroupState) :
    (s.setGroupState i st).groups = (s.setChannel i { s.channel i with state := some st }).groups :=
  (State.setGroupState_requested s i st).1 .groups (by decide)

/-- The window and the TRIP pulse of a shed command, at a group whose state has just been set (R112, R114, R116). -/
theorem State.startWindow_issueTrip {u : State} {i : Fin 6} {c : Channel} (h : u.channel i = c) :
    (c.close = none →
      ((u.startWindow i).issueTrip i).channel i =
        { c with window := some (u.now + 500000), trip := some (u.now + 200000), tripHeld := false }
      ∧ ((u.startWindow i).issueTrip i).groups.closeSpacing = some (u.now + 10000000))
    ∧ (c.close ≠ none →
      ((u.startWindow i).issueTrip i).channel i = { c with window := some (u.now + 500000), tripHeld := true }
      ∧ ((u.startWindow i).issueTrip i).groups.closeSpacing = u.groups.closeSpacing) := by
  have w : (u.startWindow i).channel i = { c with window := some (u.now + 500000) } := by
    simp [State.startWindow, h, State.after, confirmationTime, ms]
  refine ⟨fun hc => ?_, fun hc => ?_⟩
  · have n : ¬ ((u.startWindow i).channel i).close.isSome := by simp [w, hc]
    have e : (u.startWindow i).issueTrip i = (u.startWindow i).startTrip i := if_neg n
    rw [e, State.startTrip, w]
    exact ⟨State.channel_setChannel (u.startWindow i) i _, rfl⟩
  · have n : ((u.startWindow i).channel i).close.isSome := by simp [w, Option.isSome_iff_ne_none, hc]
    rw [State.issueTrip, if_pos n, w]
    exact ⟨State.channel_setChannel (u.startWindow i) i _, rfl⟩

/-- A CONNECTED group that takes a shed command is SHED_PENDING with its window running; its TRIP pulse starts with the
close spacing timer, or is held back behind its CLOSE pulse (R112, R114, R116). -/
theorem State.takeShed_channel {s : State} {i : Fin 6} (h : (s.channel i).state = some .connected) :
    ((s.channel i).close = none →
      (s.takeShed i).channel i = { s.channel i with
        state := some .shedPending, window := some (s.now + 500000), trip := some (s.now + 200000), tripHeld := false }
      ∧ (s.takeShed i).groups.closeSpacing = some (s.now + 10000000))
    ∧ ((s.channel i).close ≠ none →
      (s.takeShed i).channel i = { s.channel i with
        state := some .shedPending, window := some (s.now + 500000), tripHeld := true }
      ∧ (s.takeShed i).groups.closeSpacing = s.groups.closeSpacing) := by
  have c : (s.setGroupState i .shedPending).channel i = { s.channel i with state := some .shedPending } := by
    simp only [State.channel, State.setGroupState_groups]
    exact State.channel_setChannel s i _
  have g : (s.setGroupState i .shedPending).groups.closeSpacing = s.groups.closeSpacing := by
    rw [State.setGroupState_groups]; rfl
  have r := State.startWindow_issueTrip c
  simpa only [State.takeShed, if_pos h, State.setGroupState_now, g] using r

/-- A shed command to one group leaves every other as it was. -/
theorem State.takeShed_channel_ne (s : State) {i j : Fin 6} (h : j ≠ i) : (s.takeShed i).channel j = s.channel j := by
  unfold State.takeShed
  split
  · have a : (s.setGroupState i .shedPending).channel j = s.channel j := by
      simp only [State.channel, State.setGroupState_groups]
      exact State.channel_setChannel_ne s _ h.symm
    have b (u : State) (c : Channel) : (u.setChannel i c).channel j = u.channel j :=
      State.channel_setChannel_ne u c h.symm
    have k (u : State) : (u.issueTrip i).channel j = u.channel j := by
      unfold State.issueTrip
      split
      · exact b u _
      · exact b u _
    rw [k, State.startWindow, b, a]
  · rfl

/-- Of the ladder a shed command at a channel rewrites the entries alone. -/
theorem State.takeShed_ladder (s : State) (i : Fin 6) :
    (s.takeShed i).ladder = { s.ladder with entries := (s.takeShed i).ladder.entries } := by
  unfold State.takeShed
  split
  · have a := ((State.startWindow_frame (s.setGroupState i .shedPending) i).trans (State.issueTrip_frame _ i))
    have b : ((s.setGroupState i .shedPending).startWindow i |>.issueTrip i).ladder
        = (s.setGroupState i .shedPending).ladder := a .ladder (by decide)
    rw [b]
    exact (State.setGroupState_requested s i .shedPending).2.2.2.1
  · rfl

/-! ### The slow step (R134) -/

/-- A later state in which the groups stand, of the ladder the entries alone were rewritten, and no latch has cleared
shows the same slow step. -/
theorem State.SlowStep.later {s t u : State} {first : Option LadderEntry} (h : s.SlowStep t first)
    (g : u.groups = t.groups) (l : u.ladder = { t.ladder with entries := u.ladder.entries }) (n : u.now = t.now)
    (k : t.keepsLatches u) : s.SlowStep u first := by
  have c (i) : u.channel i = t.channel i := by simp only [State.channel, g]
  unfold State.SlowStep at *
  rw [l, n, g]
  simp only [c]
  cases first with
  | none => exact ⟨k _ h.1, h.2⟩
  | some e => exact h

/-- A slow step looks at the groups and the own action age of the state before it. -/
theorem State.SlowStep.before {s b t : State} {first : Option LadderEntry} (h : s.SlowStep t first)
    (g : b.groups = s.groups) (a : b.ladder.actionAge = s.ladder.actionAge) : b.SlowStep t first := by
  have c (i) : b.channel i = s.channel i := by simp only [State.channel, g]
  unfold State.SlowStep at *
  rw [g, a]
  simp only [c]
  exact h

/-- The own action age is 0 at a command, and its count timer starts afresh (R130, R143). -/
theorem State.commandShed_slowStep {s : State} {e : LadderEntry} (h : s.ladder.inFlight = none) (o : e.owner = .own) :
    s.SlowStep (s.commandShed e.index) (some e) := by
  have l := State.takeShed_ladder s.resetAge e.index
  have n : (s.resetAge.takeShed e.index).now = s.now :=
    (State.takeShed_frame s.resetAge e.index) .clock (by decide)
  simp only [State.SlowStep, o, if_true, State.commandShed]
  refine ⟨?_, ?_, ?_, fun j hj => ?_, fun hc => ?_, fun hc hl => ?_, fun hc hl => ?_⟩
  · rw [l]; exact h
  · rw [l]; rfl
  · rw [l, n]; rfl
  · exact State.takeShed_channel_ne s.resetAge hj
  · rw [State.takeShed_of_ne (s := s.resetAge) hc]; rfl
  · rw [n]; exact (State.takeShed_channel (s := s.resetAge) hc).1 hl
  · rw [n]; exact (State.takeShed_channel (s := s.resetAge) hc).2 hl

/-- What a slow step does (R134). -/
theorem State.takeStep_slowStep {s : State} (h : s.ladder.inFlight = none) :
    s.SlowStep s.takeStep (s.ladder.entries.find? s.ladder.eligible) := by
  unfold State.takeStep
  cases s.ladder.entries.find? s.ladder.eligible with
  | none => exact ⟨(s.mem_raise _ _).2 (.inr rfl), rfl, h⟩
  | some e =>
    by_cases o : e.owner = .own
    · simp only [o, if_true]
      exact State.commandShed_slowStep h o
    · simp only [State.SlowStep, o, if_false]
      exact ⟨trivial, trivial, rfl, trivial⟩

/-- A slow step leaves the skip set and a held request as they were. -/
theorem State.takeStep_keeps (s : State) : s.takeStep.ladder.skip = s.ladder.skip
    ∧ s.takeStep.ladder.held = s.ladder.held := by
  unfold State.takeStep
  split
  · exact ⟨rfl, rfl⟩
  · split
    · rw [State.commandShed, State.takeShed_ladder]
      exact ⟨rfl, rfl⟩
    · exact ⟨rfl, rfl⟩

/-! ### A change among the peers or the ties (R127) -/

/-- What the ladder makes of a change among the peers or the ties that left the card as `b`, which has the groups and
the ladder of `s` still (R127, R128, R133, R135). -/
theorem State.spread_ladderSpread {s b : State} (g : b.groups = s.groups) (l : b.ladder = s.ladder) :
    s.LadderSpread b b.spread := by
  have rl : b.resolve.ladder = s.ladder := l
  have rg : b.resolve.groups = s.groups := g
  have e : b.spread = b.resolve.syncLadder := rfl
  rw [e]
  unfold State.LadderSpread State.syncLadder
  simp only [rl]
  generalize s.ladder.skip.filter (fun k => (stateAt b.resolve.ladderOf k).isSome
    && stateAt b.resolve.ladderOf k == stateAt s.ladder.entries k) = skip
  cases hf : s.ladder.inFlight with
  | none => simp [g]
  | some k =>
    by_cases hc : stateAt b.resolve.ladderOf k = some .connected
    · simp [hc, g]
    · simp only [hc, if_false]
      cases hh : s.ladder.held with
      | false => simp [State.nextStep, g, hc]
      | true =>
        let w : State := { b.resolve with
          ladder := { s.ladder with entries := b.resolve.ladderOf, skip, inFlight := none, handOff := none
                                    held := false } }
        have hw : w.SlowStep w.takeStep (w.ladder.entries.find? w.ladder.eligible) := State.takeStep_slowStep rfl
        rw [Ladder.eligible_eq] at hw
        have hb := hw.before (b := b) rfl (by rw [l])
        have kw := w.takeStep_keeps
        simp only [State.nextStep, true_and, if_true]
        refine ⟨kw.1, by simp, by simp [hc], by simp, fun _ _ _ _ => ⟨kw.2, hb⟩⟩

/-- A later state in which the groups stand, of the ladder the entries alone were rewritten, and no latch has cleared
shows the same taking up. -/
theorem State.LadderSpread.later {s b t u : State} (h : s.LadderSpread b t) (g : u.groups = t.groups)
    (l : u.ladder = { t.ladder with entries := u.ladder.entries }) (n : u.now = t.now) (k : t.keepsLatches u) :
    s.LadderSpread b u := by
  unfold State.LadderSpread at *
  obtain ⟨h1, h2, h3, h4, h5⟩ := h
  refine ⟨?_, ?_, ?_, ?_, fun k' a c d => ⟨?_, (h5 k' a c d).2.later g l n k⟩⟩
  · rw [l]; exact h1
  · rw [l, g]; exact h2
  · rw [l, g]; exact h3
  · rw [l, g]; exact h4
  · rw [l]; exact (h5 k' a c d).1

/-! ### The block shed (R138 to R140) -/

/-- The shed commands of a block shed, one after another. -/
def State.commandSheds (s : State) (es : List LadderEntry) : State := es.foldl (fun s e => s.commandShed e.index) s

@[simp] theorem State.commandSheds_nil (s : State) : s.commandSheds [] = s := rfl

@[simp] theorem State.commandSheds_cons (s : State) (e : LadderEntry) (es : List LadderEntry) :
    s.commandSheds (e :: es) = (s.commandShed e.index).commandSheds es := rfl

theorem State.commandSheds_frame (s : State) (es : List LadderEntry) :
    s.keepsBut (s.commandSheds es) [.groups, .composer, .ladder] :=
  State.keepsBut.foldl (fun t (e : LadderEntry) => t.commandShed_frame e.index) es s

/-- A group that no command names, or that is not CONNECTED, stays as it was. -/
theorem State.commandSheds_channel_same (es : List LadderEntry) (s : State) (j : Fin 6)
    (h : (∀ e ∈ es, e.index ≠ j) ∨ (s.channel j).state ≠ some .connected) :
    (s.commandSheds es).channel j = s.channel j := by
  induction es generalizing s with
  | nil => rfl
  | cons e es ih =>
    have c : (s.commandShed e.index).channel j = s.channel j := by
      by_cases hj : j = e.index
      · subst hj
        have hne : (s.channel e.index).state ≠ some .connected := by simpa using h
        rw [State.commandShed, State.takeShed_of_ne (s := s.resetAge) hne]; rfl
      · exact State.takeShed_channel_ne s.resetAge hj
    rw [State.commandSheds_cons, ih _ (by rw [c]; exact h.imp (fun a x hx => a x (by simp [hx])) id), c]

/-- A CONNECTED group that a command names is SHED_PENDING with its window running; its TRIP pulse has started, or is
held back behind its CLOSE pulse (R112, R116). -/
theorem State.commandSheds_channel (es : List LadderEntry) (s : State) (j : Fin 6) (h : ∃ e ∈ es, e.index = j)
    (hc : (s.channel j).state = some .connected) :
    ((s.commandSheds es).channel j).state = some .shedPending
      ∧ ((s.commandSheds es).channel j).window = some (s.now + 500000)
      ∧ ((s.channel j).close = none → ((s.commandSheds es).channel j).trip = some (s.now + 200000))
      ∧ ((s.channel j).close ≠ none → ((s.commandSheds es).channel j).tripHeld = true) := by
  induction es generalizing s with
  | nil => simp at h
  | cons e es ih =>
    rw [State.commandSheds_cons]
    by_cases hj : j = e.index
    · subst hj
      have r := State.takeShed_channel (s := s.resetAge) hc
      have q : ((s.resetAge.takeShed e.index).channel e.index).state = some .shedPending := by
        by_cases hl : (s.resetAge.channel e.index).close = none
        · rw [(r.1 hl).1]
        · rw [(r.2 hl).1]
      rw [State.commandSheds_channel_same es _ _ (.inr (by rw [State.commandShed, q]; simp)), State.commandShed]
      refine ⟨q, ?_, fun hl => by rw [(r.1 hl).1]; rfl, fun hl => by rw [(r.2 hl).1]⟩
      by_cases hl : (s.resetAge.channel e.index).close = none
      · rw [(r.1 hl).1]; rfl
      · rw [(r.2 hl).1]; rfl
    · have c : (s.commandShed e.index).channel j = s.channel j := State.takeShed_channel_ne s.resetAge hj
      have n : (s.commandShed e.index).now = s.now := (s.commandShed_frame e.index) .clock (by decide)
      have r := ih (s.commandShed e.index) (by simpa [Ne.symm hj] using h) (by rw [c]; exact hc)
      rwa [c, n] at r

/-- The own action age after a block shed's commands (R143). -/
theorem State.commandSheds_age (es : List LadderEntry) (s : State) :
    (s.commandSheds es).ladder.actionAge = if es = [] then s.ladder.actionAge else 0 := by
  induction es generalizing s with
  | nil => rfl
  | cons e es ih =>
    have a : (s.commandShed e.index).ladder.actionAge = 0 := by
      rw [State.commandShed, State.takeShed_ladder]; rfl
    rw [State.commandSheds_cons, ih, a]
    simp

/-- The own groups that the walk of a block shed chooses. -/
def Ladder.ownChosen (l : Ladder) (d : Int) : List LadderEntry :=
  (walk l d l.entries).filter (fun e => decide (e.owner = .own))

theorem State.blockShed_eq (s : State) (n : TripNotice) :
    s.blockShed n = if s.deficit n ≤ 0 then s else
      (if chosenSum (walk s.ladder (s.deficit n) s.ladder.entries) < s.deficit n then s.raise .shedExhausted
        else s).commandSheds (s.ladder.ownChosen (s.deficit n)) := rfl

/-- What the block shed of a trip notice does (R138 to R140), as seen from any later state in which the groups and the
own action age stand and no latch has cleared. -/
theorem State.blockShed_done (s : State) (n : TripNotice) {t : State} (g : t.groups = (s.blockShed n).groups)
    (a : t.ladder.actionAge = (s.blockShed n).ladder.actionAge) (k : (s.blockShed n).keepsLatches t) :
    s.BlockShed t n.station n.p := by
  have c (j) : t.channel j = (s.blockShed n).channel j := by simp only [State.channel, g]
  show (s.deficit n ≤ 0 → _) ∧ (0 < s.deficit n → s.ladder.ownChosen (s.deficit n) = [] → _)
    ∧ (0 < s.deficit n → ∀ e ∈ s.ladder.ownChosen (s.deficit n), _)
    ∧ (0 < s.deficit n → ∀ j, (∀ e ∈ s.ladder.ownChosen (s.deficit n), e.index ≠ j) → _)
    ∧ (0 < s.deficit n → chosenSum (walk s.ladder (s.deficit n) s.ladder.entries) < s.deficit n → _)
  by_cases hd : s.deficit n ≤ 0
  · have e : s.blockShed n = s := by rw [State.blockShed_eq, if_pos hd]
    rw [e] at g a
    have no : ¬ 0 < s.deficit n := by omega
    exact ⟨fun _ => ⟨g, a⟩, fun h => absurd h no, fun h => absurd h no, fun h => absurd h no, fun h => absurd h no⟩
  · obtain ⟨u, hu, ug, ul, un, ux⟩ : ∃ u : State, s.blockShed n = u.commandSheds (s.ladder.ownChosen (s.deficit n))
        ∧ u.groups = s.groups ∧ u.ladder = s.ladder ∧ u.now = s.now
        ∧ (chosenSum (walk s.ladder (s.deficit n) s.ladder.entries) < s.deficit n →
          .shedExhausted ∈ u.alarms.latched) := by
      rw [State.blockShed_eq, if_neg hd]
      split
      · exact ⟨_, rfl, rfl, rfl, rfl, fun _ => (s.mem_raise _ _).2 (.inr rfl)⟩
      · exact ⟨_, rfl, rfl, rfl, rfl, fun h => absurd h ‹_›⟩
    have uc (j) : u.channel j = s.channel j := by simp only [State.channel, ug]
    rw [hu] at a k c
    rw [State.commandSheds_age, ul] at a
    refine ⟨fun h => absurd h hd, fun _ he => by rw [a, if_pos he], fun _ e he => ⟨?_, fun hc => ?_⟩, fun _ j hj => ?_,
      fun _ hx => k _ ?_⟩
    · rw [a, if_neg (List.ne_nil_of_mem he)]
    · rw [c, ← uc, ← un]
      exact State.commandSheds_channel _ u e.index ⟨e, he, rfl⟩ (by rw [uc]; exact hc)
    · rw [c, State.commandSheds_channel_same _ u j (.inl hj), uc]
    · have f := u.commandSheds_frame (s.ladder.ownChosen (s.deficit n)) .alarms (by decide)
      rw [show (u.commandSheds _).alarms = u.alarms from f]
      exact ux hx

end Sys2Proof.Machine
end

