-- ==== Sys2Proof/Laws/Listings.lean ====
section
/-! SUPPORT. What the listings hold that the card forms afresh from its sources, each said once: the set states and the
orders of the members (R97, R103, R107), the island claims with their precedence (R148, R150), and the shed ladder
(R126). -/

namespace Sys2Proof.Machine

/-! ### Members by set state -/

theorem EntryState.offered_iff (e : EntryState) : e.offered = true ↔ e = .live ∨ e = .stale := by
  cases e <;> simp [EntryState.offered]

@[simp] theorem State.memberState_own (s : State) : s.memberState s.own = some s.seq.state := by simp [State.memberState]

@[simp] theorem State.memberRank_own (s : State) : s.memberRank s.own = s.conf.startRank := by simp [State.memberRank]

/-- A peer has the set state of its record while its entry is LIVE or STALE (R97). -/
theorem State.memberState_peer (s : State) {i : Station} (h : i ≠ s.own) (st : SetState) :
    s.memberState i = some st ↔
      ((s.entry i).state = .live ∨ (s.entry i).state = .stale) ∧ ∃ r, (s.entry i).record = some r ∧ r.setState = st := by
  rw [← EntryState.offered_iff]
  simp only [State.memberState, h, if_false]
  split <;> simp_all

theorem State.mem_inOrder (s : State) (st : SetState) (i : Station) :
    i ∈ s.inOrder st ↔ i ∈ s.island.members ∧ s.memberState i = some st := by
  simp [State.inOrder, List.mem_insertionSort]

theorem State.inOrder_nodup (s : State) (st : SetState) (h : s.island.members.Nodup) : (s.inOrder st).Nodup :=
  ((List.perm_insertionSort _ _).nodup_iff).2 (h.filter _)

/-- By start rank, and by identity among equal ranks (R103, R107). -/
def State.Precedes (s : State) (i j : Station) : Prop :=
  s.memberRank i < s.memberRank j ∨ (s.memberRank i = s.memberRank j ∧ i ≤ j)

theorem State.precedes_iff (s : State) (i j : Station) :
    s.memberRank i * 8 + i.val ≤ s.memberRank j * 8 + j.val ↔ s.Precedes i j := by
  have a := i.isLt; have b := j.isLt
  simp only [State.Precedes, Fin.le_def]
  omega

theorem State.inOrder_pairwise (s : State) (st : SetState) : (s.inOrder st).Pairwise s.Precedes := by
  have t : IsTrans Station (fun i j => s.memberRank i * 8 + i.val ≤ s.memberRank j * 8 + j.val) :=
    ⟨fun _ _ _ a b => le_trans a b⟩
  have o : Std.Total (fun i j : Station => s.memberRank i * 8 + i.val ≤ s.memberRank j * 8 + j.val) :=
    ⟨fun _ _ => le_total _ _⟩
  exact (List.pairwise_insertionSort _ _).imp (fun h => (s.precedes_iff _ _).1 h)

theorem State.Precedes.antisymm {s : State} {i j : Station} (h : s.Precedes i j) (k : s.Precedes j i) : i = j := by
  simp only [State.Precedes, Fin.le_def] at h k
  exact Fin.ext (by omega)

/-- The head of a sorted list is the one of its members that stands before them all. -/
theorem head_iff {α : Type} {R : α → α → Prop} (refl : ∀ a, R a a) (antisymm : ∀ a b, R a b → R b a → a = b) {l : List α}
    (p : l.Pairwise R) (a : α) : l.head? = some a ↔ a ∈ l ∧ ∀ b ∈ l, R a b := by
  cases l with
  | nil => simp
  | cons x xs =>
    have q := (List.pairwise_cons.1 p).1
    simp only [List.head?_cons, Option.some.injEq]
    constructor
    · rintro rfl; exact ⟨by simp, fun b hb => (List.mem_cons.1 hb).elim (fun e => e ▸ refl _) (q b)⟩
    · rintro ⟨m, h⟩
      exact (List.mem_cons.1 m).elim Eq.symm (fun m => antisymm x a (q a m) (h x (by simp)))

/-- The first in order is a member in that set state that stands before every other one (R104). -/
theorem State.inOrder_head (s : State) (st : SetState) (i : Station) :
    (s.inOrder st).head? = some i ↔ (i ∈ s.island.members ∧ s.memberState i = some st)
      ∧ ∀ j, (j ∈ s.island.members ∧ s.memberState j = some st) → s.Precedes i j := by
  rw [head_iff (fun _ => .inr ⟨rfl, le_refl _⟩) (fun _ _ => State.Precedes.antisymm) (s.inOrder_pairwise st)]
  simp only [State.mem_inOrder]

/-- The last in order is a member in that set state that stands behind every other one (R107). -/
theorem State.inOrder_last (s : State) (st : SetState) (i : Station) :
    (s.inOrder st).getLast? = some i ↔ (i ∈ s.island.members ∧ s.memberState i = some st)
      ∧ ∀ j, (j ∈ s.island.members ∧ s.memberState j = some st) → s.Precedes j i := by
  rw [← List.head?_reverse, head_iff (R := fun a b => s.Precedes b a) (fun _ => .inr ⟨rfl, le_refl _⟩)
    (fun _ _ h k => State.Precedes.antisymm k h) (List.pairwise_reverse.2 (s.inOrder_pairwise st))]
  simp only [List.mem_reverse, State.mem_inOrder]

/-! ### Island claims -/

/-- An own claim is an island claim while it is CLAIMING, GRANTED or WAITING (R148). -/
theorem State.ownIslandClaim_iff (s : State) (n : Fin 2) (c : IslandClaim) :
    s.ownIslandClaim n = some c ↔ c.station = s.own ∧ c.index = n ∧ s.demand n = some c.demand
      ∧ c.age = (s.claim n).age ∧ (s.claim n).state.listed = some c.state := by
  obtain ⟨st, ix, cs, dm, ag⟩ := c
  unfold State.ownIslandClaim
  split
  · rename_i a b
    simp only [a, b, Option.some.injEq, IslandClaim.mk.injEq]
    constructor
    · rintro ⟨rfl, rfl, rfl, rfl, rfl⟩; exact ⟨rfl, rfl, rfl, rfl, rfl⟩
    · rintro ⟨rfl, rfl, rfl, rfl, rfl⟩; exact ⟨rfl, rfl, rfl, rfl, rfl⟩
  · rename_i h
    simp only [reduceCtorEq, false_iff, not_and]
    intro _ _ d _ l
    exact h _ _ d l

theorem ClaimState.listed_iff (x : ClaimState) (c : ClaimCode) :
    x.listed = some c ↔ (x = .claiming ∧ c = .claiming) ∨ (x = .granted ∧ c = .granted) ∨ (x = .waiting ∧ c = .waiting) := by
  cases x <;> cases c <;> simp [ClaimState.listed]

theorem mem_peerIslandClaims (i : Station) (e : PeerEntry) (c : IslandClaim) :
    c ∈ peerIslandClaims i e ↔ c.station = i ∧ (e.state = .live ∨ e.state = .stale) ∧ ∃ r, e.record = some r
      ∧ { index := c.index, demand := c.demand, state := c.state, age := c.age } ∈ r.claims := by
  obtain ⟨st, ix, cs, dm, ag⟩ := c
  rw [← EntryState.offered_iff]
  unfold peerIslandClaims
  split
  · rename_i r a b
    rw [a, b]
    simp only [List.mem_map, IslandClaim.mk.injEq, true_and, Option.some.injEq, exists_eq_left']
    constructor
    · rintro ⟨x, hx, rfl, rfl, rfl, rfl, rfl⟩; exact ⟨rfl, hx⟩
    · rintro ⟨rfl, h⟩; exact ⟨_, h, rfl, rfl, rfl, rfl, rfl⟩
  · rename_i h
    simp only [List.not_mem_nil, false_iff, not_and, not_exists]
    intro _ a r b
    exact absurd b (by intro b; exact (h r a b).elim)

/-- The island claims are the own ones that are listed and those of the records of LIVE and STALE members (R148). -/
theorem State.mem_islandClaims (s : State) (c : IslandClaim) :
    c ∈ s.islandClaims ↔ (∃ n, s.ownIslandClaim n = some c) ∨ (c.station ∈ s.island.members ∧ c.station ≠ s.own
      ∧ c ∈ peerIslandClaims c.station (s.entry c.station)) := by
  simp only [State.islandClaims, List.mem_append, List.mem_filterMap, List.mem_finRange, true_and, List.mem_flatMap]
  refine or_congr Iff.rfl ⟨?_, fun ⟨a, b, d⟩ => ⟨_, a, by simpa [b] using d⟩⟩
  rintro ⟨i, hi, h⟩
  split at h
  · simp at h
  · rename_i n
    have e := ((mem_peerIslandClaims _ _ _).1 h).1
    subst e
    exact ⟨hi, n, h⟩

/-- No claim is an island claim twice (R148). -/
theorem State.islandClaims_nodup (s : State) (h : s.TableSafe) (m : s.island.members.Nodup) :
    (s.islandClaims.map (fun c => (c.station, c.index))).Nodup := by
  have own : ∀ n c, s.ownIslandClaim n = some c → c.station = s.own ∧ c.index = n := fun n c hc =>
    let k := (s.ownIslandClaim_iff n c).1 hc; ⟨k.1, k.2.1⟩
  unfold List.Nodup
  rw [List.pairwise_map, State.islandClaims, List.pairwise_append]
  refine ⟨?_, ?_, ?_⟩
  · refine List.Pairwise.filterMap (R := (· ≠ ·)) _ ?_ (List.nodup_finRange 2)
    intro a b ab x hx y hy e
    have hx := own a x (by simpa using hx); have hy := own b y (by simpa using hy)
    exact ab (by rw [← hx.2, ← hy.2]; exact (Prod.mk.inj e).2)
  · rw [List.pairwise_flatMap]
    refine ⟨fun i _ => ?_, ?_⟩
    · split
      · exact .nil
      · unfold peerIslandClaims
        split
        · rename_i r _ hr
          have g := (h.2.2.2.2.2 i r hr).2.2.2.2.2.2.2.2.2.2.2.2.2
          rw [List.pairwise_map]
          unfold List.Nodup at g
          rw [List.pairwise_map] at g
          exact g.imp (fun n e => n (Prod.mk.inj e).2)
        · exact .nil
    · refine m.imp fun {i j} ij => ?_
      intro x hx y hy e
      split at hx
      · simp at hx
      · split at hy
        · simp at hy
        · have a := ((mem_peerIslandClaims _ _ _).1 hx).1
          have b := ((mem_peerIslandClaims _ _ _).1 hy).1
          exact ij (by rw [← a, ← b]; exact (Prod.mk.inj e).1)
  · intro x hx y hy e
    obtain ⟨n, -, hn⟩ := List.mem_filterMap.1 hx
    obtain ⟨i, -, hi⟩ := List.mem_flatMap.1 hy
    split at hi
    · simp at hi
    · rename_i ne
      have a := (own n x hn).1
      have b := ((mem_peerIslandClaims _ _ _).1 hi).1
      exact ne (by rw [← b, ← a]; exact (Prod.mk.inj e).1.symm)

/-- Precedence (R150). -/
theorem IslandClaim.ahead_iff (a b : IslandClaim) : a.ahead b = true ↔ (a.state = .granted ∧ b.state ≠ .granted)
    ∨ ((a.state = .granted ↔ b.state = .granted) ∧ (b.age < a.age ∨ (b.age = a.age
      ∧ (a.station < b.station ∨ (a.station = b.station ∧ a.index < b.index))))) := by
  unfold IslandClaim.ahead
  by_cases x : a.state = .granted <;> by_cases y : b.state = .granted <;> 
    simp only [x, y, ne_eq, not_true, not_false_iff, and_true, and_false, true_and, false_and, if_true, if_false,
      iff_true, iff_false, or_false, false_or, iff_self]
  all_goals first
    | simp; done
    | (split
       · simp only [decide_eq_true_eq]; omega
       · split <;> simp only [decide_eq_true_eq, Fin.lt_def, Fin.ext_iff] at * <;> omega)

/-! ### The shed ladder -/

/-- An own entry stands for a configured own group (R126). -/
theorem State.mem_ownEntries (s : State) (e : LadderEntry) : e ∈ s.ownEntries ↔ e.owner = .own ∧ e.station = s.own
    ∧ (∃ g ∈ s.conf.groups, g.index = e.index ∧ g.rank = e.rank ∧ g.nominal = e.nominal)
    ∧ ∃ st, (s.channel e.index).state = some st ∧ st.frameCode = e.state := by
  obtain ⟨st, ix, rk, nm, cd, ow⟩ := e
  simp only [State.ownEntries, List.mem_filterMap, Option.map_eq_some_iff, LadderEntry.mk.injEq]
  constructor
  · rintro ⟨g, hg, x, hx, rfl, rfl, rfl, rfl, rfl, rfl⟩; exact ⟨rfl, rfl, ⟨g, hg, rfl, rfl, rfl⟩, x, hx, rfl⟩
  · rintro ⟨rfl, rfl, ⟨g, hg, rfl, rfl, rfl⟩, x, hx, rfl⟩; exact ⟨g, hg, x, hx, rfl, rfl, rfl, rfl, rfl, rfl⟩

/-- A peer's entry stands for a group that the record of its LIVE or STALE entry lists (R126). -/
theorem mem_peerEntries (i : Station) (p : PeerEntry) (e : LadderEntry) : e ∈ peerEntries i p ↔ e.station = i
    ∧ ((p.state = .live ∧ e.owner = .live) ∨ (p.state = .stale ∧ e.owner = .stale))
    ∧ ∃ r, p.record = some r
      ∧ { index := e.index, rank := e.rank, nominal := e.nominal, state := e.state } ∈ r.groups := by
  obtain ⟨st, ix, rk, nm, cd, ow⟩ := e
  unfold peerEntries
  split
  · rename_i r a b
    simp only [a, b, List.mem_map, LadderEntry.mk.injEq, true_and, reduceCtorEq, false_and, or_false, Option.some.injEq,
      exists_eq_left']
    constructor
    · rintro ⟨x, hx, rfl, rfl, rfl, rfl, rfl, rfl⟩; exact ⟨rfl, rfl, hx⟩
    · rintro ⟨rfl, rfl, h⟩; exact ⟨_, h, rfl, rfl, rfl, rfl, rfl, rfl⟩
  · rename_i r a b
    simp only [a, b, List.mem_map, LadderEntry.mk.injEq, true_and, reduceCtorEq, false_and, false_or, Option.some.injEq,
      exists_eq_left']
    constructor
    · rintro ⟨x, hx, rfl, rfl, rfl, rfl, rfl, rfl⟩; exact ⟨rfl, rfl, hx⟩
    · rintro ⟨rfl, rfl, h⟩; exact ⟨_, h, rfl, rfl, rfl, rfl, rfl, rfl⟩
  · rename_i h1 h2
    simp only [List.not_mem_nil, false_iff, not_and, not_exists]
    rintro - (⟨a, -⟩ | ⟨a, -⟩) r b
    · exact absurd b (by intro b; exact (h1 r a b).elim)
    · exact absurd b (by intro b; exact (h2 r a b).elim)

/-- The ladder holds the own entries and those of the members (R126). -/
theorem State.mem_ladderOf (s : State) (e : LadderEntry) : e ∈ s.ladderOf ↔ e ∈ s.ownEntries
    ∨ (e.station ∈ s.island.members ∧ e.station ≠ s.own ∧ e ∈ peerEntries e.station (s.entry e.station)) := by
  simp only [State.ladderOf, List.mem_insertionSort, List.mem_append, List.mem_flatMap]
  refine or_congr Iff.rfl ⟨?_, fun ⟨a, b, d⟩ => ⟨_, a, by simpa [b] using d⟩⟩
  rintro ⟨i, hi, h⟩
  split at h
  · simp at h
  · rename_i n
    have x := ((mem_peerEntries _ _ _).1 h).1
    subst x
    exact ⟨hi, n, h⟩

end Sys2Proof.Machine
end

