-- ==== Sys2Proof/Laws/Port.lean ====
section
/-! SUPPORT. A whole message at an IDLE service port (R172 to R174): its bytes are stored one after another, and it is
taken at its last byte, whatever the gap timer then shows. -/

namespace Sys2Proof.Machine

/-- The card just before the last byte of a message that reaches an IDLE port is taken (R173). -/
def State.receivedUpTo (s : State) (bs : List Byte) : State :=
  { s with service := { s.service with state := .receiving, bytes := bs, gap := s.after gapTime } }

/-- A message of four bytes, by its length byte, is taken at its fourth byte. -/
theorem State.takeBytes_four (s : State) (h : s.service.state = .idle) (kind check : Byte) :
    s.takeBytes [0x6D#8, 4#8, kind, check]
      = (s.receivedUpTo [0x6D#8, 4#8, kind]).takeMessage [0x6D#8, 4#8, kind, check] := by
  simp [State.takeBytes, State.takeByte, h, State.receiveByte, State.receivedUpTo, State.after]

/-- A message of five bytes, by its length byte, is taken at its fifth byte. -/
theorem State.takeBytes_five (s : State) (h : s.service.state = .idle) (kind arg check : Byte) :
    s.takeBytes [0x6D#8, 5#8, kind, arg, check]
      = (s.receivedUpTo [0x6D#8, 5#8, kind, arg]).takeMessage [0x6D#8, 5#8, kind, arg, check] := by
  simp [State.takeBytes, State.takeByte, h, State.receiveByte, State.receivedUpTo, State.after]

/-- At an IDLE port the whole message is still to come. -/
theorem State.bytesToCome_idle (s : State) (h : s.service.state = .idle) (bs : List Byte) : s.bytesToCome bs = bs := by
  simp [State.bytesToCome, h]

/-! ### The gap timer at the taking of a request -/

/-- The card with its service port replaced. -/
def State.setService (s : State) (p : Service) : State := { s with service := p }

theorem setService_ite {c : Prop} [Decidable c] (a b : State) (p : Service) :
    (if c then a else b).setService p = if c then a.setService p else b.setService p := by split <;> rfl

theorem State.request_setService (s : State) (p : Service) (k) : (s.setService p).request k = (s.request k).setService p := by
  unfold State.request; rw [setService_ite]; rfl

theorem State.flush_setService (s : State) (p : Service) : (s.setService p).flush = s.flush.setService p := by
  cases w : s.composer.waiting <;> cases h : s.composer.spacing <;>
    (unfold State.flush; rw [show (s.setService p).composer = s.composer from rfl, w, h]; try rfl)

theorem State.finish_setService (s : State) (p : Service) : (s.setService p).finish = s.finish.setService p := by
  show (s.resolve.setService p).flush.settle = _
  rw [State.flush_setService]
  rfl

theorem State.setGroupState_setService (s : State) (p : Service) (i st) :
    (s.setService p).setGroupState i st = (s.setGroupState i st).setService p := by
  show (((s.setChannel i _).setService p).request .urgent).relist = _
  rw [State.request_setService]; rfl

theorem State.issueTrip_setService (s : State) (p : Service) (i) : (s.setService p).issueTrip i = (s.issueTrip i).setService p := by
  unfold State.issueTrip; rw [setService_ite]; rfl

theorem State.commandShed_setService (s : State) (p : Service) (i) :
    (s.setService p).commandShed i = (s.commandShed i).setService p := by
  unfold State.commandShed State.takeShed
  rw [setService_ite, ← State.issueTrip_setService]
  show (if _ then ((((s.resetAge.setService p).setGroupState i .shedPending).startWindow i).issueTrip i) else _) = _
  rw [State.setGroupState_setService]; rfl

theorem State.takeStep_setService (s : State) (p : Service) : (s.setService p).takeStep = s.takeStep.setService p := by
  unfold State.takeStep
  show (match s.ladder.entries.find? s.ladder.eligible with | none => _ | some e => _) = _
  cases s.ladder.entries.find? s.ladder.eligible with
  | none => rfl
  | some e => dsimp only; rw [setService_ite, State.commandShed_setService]; rfl

theorem State.nextStep_setService (s : State) (p : Service) : (s.setService p).nextStep = s.nextStep.setService p := by
  unfold State.nextStep
  rw [setService_ite, ← State.takeStep_setService]; rfl

theorem State.spread_setService (s : State) (p : Service) : (s.setService p).spread = s.spread.setService p := by
  show (s.resolve.setService p).syncLadder = s.resolve.syncLadder.setService p
  generalize s.resolve = u
  unfold State.syncLadder
  dsimp only
  rw [show (u.setService p).ladder = u.ladder from rfl]
  cases h : u.ladder.inFlight with
  | none => rfl
  | some k =>
    dsimp only
    rw [setService_ite, ← State.nextStep_setService]; rfl


/-- A response stands in place of what the port held, its gap timer included (R174). -/
theorem State.respond_setService (s u : State) (h : s.service = u.service) (g : Timer) (k : Nat) (r : Reply) :
    (s.setService { u.service with gap := g }).respond k r = s.respond k r := by
  rw [← h]; rfl

/-- The taking of a request does not look at the gap timer (R174). -/
theorem State.takeMessage_gap (s : State) (bs : List Byte) (g : Timer) :
    (s.setService { s.service with gap := g }).takeMessage bs = s.takeMessage bs := by
  have inhibit (c : State) (h : c.service = s.service) (i : Fin 6) (st : GroupState) (k : Nat) :
      ((c.setService { s.service with gap := g }).setGroupState i st).finish.respond k (.ok [])
        = (c.setGroupState i st).finish.respond k (.ok []) := by
    rw [State.setGroupState_setService, State.finish_setService]
    exact State.respond_setService _ _ (Eq.trans (State.finish_frame _ .service (by decide))
      (Eq.trans (c.setGroupState_frame i st .service (by decide)) h)) g k _
  unfold State.takeMessage
  split
  · unfold State.serve
    dsimp only
    split
    any_goals rfl
    · unfold State.servePeer; split <;> rfl
    · unfold State.serveClearPhantom
      split
      · rfl
      · rename_i i _
        rw [show (s.setService { s.service with gap := g }).entry i = s.entry i from rfl]
        split
        · generalize hc : s.setEntry i (PeerEntry.empty (s.entry i).lateFrames (s.entry i).dualCopies) = c
          have h : c.service = s.service := by rw [← hc]; rfl
          show ((State.setService _ _).setEntry i _).spread.finish.respond _ _ = _
          rw [show (s.setService { s.service with gap := g }).setEntry i _ = c.setService { s.service with gap := g } from
            by rw [← hc]; rfl]
          rw [State.spread_setService, State.finish_setService]
          exact State.respond_setService _ _ (Eq.trans (State.finish_frame _ .service (by decide))
            (Eq.trans (c.spread_frame .service (by decide)) h)) g _ _
        · rfl
    · unfold State.serveInhibit
      rw [show (s.setService { s.service with gap := g }).namedChannel (bs.getD 3 0).toNat
        = s.namedChannel (bs.getD 3 0).toNat from rfl]
      split <;> first | rfl | exact inhibit (s.clearMarks _) rfl _ _ _
    · unfold State.serveEnable
      rw [show (s.setService { s.service with gap := g }).namedChannel (bs.getD 3 0).toNat
        = s.namedChannel (bs.getD 3 0).toNat from rfl]
      split <;> first | rfl | exact inhibit (s.clearMarks _) rfl _ _ _
    · unfold State.serveRestart
      rw [show (s.setService { s.service with gap := g }).seq = s.seq from rfl]
      split <;> rfl
  · rfl


/-! ### A message part of which has been received -/

/-- The card with its port put back to IDLE. -/
def State.portIdle (s : State) : State := { s with service := { s.service with state := .idle } }

/-- The last byte of a message in RECEIVING has it taken as at an IDLE port (R173, R174). -/
theorem State.takeMessage_received (s : State) (h : s.service.state = .receiving) (bs msg : List Byte)
    (hb : s.service.bytes = bs) : s.takeMessage msg = (s.portIdle.receivedUpTo bs).takeMessage msg := by
  have e : s.portIdle.receivedUpTo bs = s.setService { s.service with gap := s.after gapTime } := by
    simp only [State.receivedUpTo, State.portIdle, State.setService, State.after, ← hb, ← h]
  rw [e, State.takeMessage_gap]

/-- The rest of a message of four bytes is taken as the whole of it at an IDLE port (log entry 9). -/
theorem State.takeBytes_rest_four (s : State) (h : s.service.state = .receiving) (kind check : Byte)
    (n : s.service.bytes ≠ []) (p : s.service.bytes <+: [0x6D#8, 4#8, kind]) :
    s.takeBytes (s.bytesToCome [0x6D#8, 4#8, kind, check]) = s.portIdle.takeBytes [0x6D#8, 4#8, kind, check] := by
  rw [State.takeBytes_four _ rfl]
  have c : s.service.bytes = [0x6D#8] ∨ s.service.bytes = [0x6D#8, 4#8] ∨ s.service.bytes = [0x6D#8, 4#8, kind] := by
    revert n p
    generalize s.service.bytes = l
    intro n p
    match l, n, p with
    | [a], _, p => simp_all
    | [a, b], _, p => simp_all
    | [a, b, c], _, p => simp_all
    | _ :: _ :: _ :: _ :: _, _, p => simp_all
  rcases c with c | c | c
  · simp [State.bytesToCome, State.takeBytes, State.takeByte, h, c, State.receiveByte, State.receivedUpTo, State.portIdle,
      State.after]
  · simp [State.bytesToCome, State.takeBytes, State.takeByte, h, c, State.receiveByte, State.receivedUpTo, State.portIdle,
      State.after]
  · rw [← State.takeMessage_received s h _ _ c]
    simp [State.bytesToCome, State.takeBytes, State.takeByte, h, c, State.receiveByte]

/-- The rest of a message of five bytes is taken as the whole of it at an IDLE port (log entry 9). -/
theorem State.takeBytes_rest_five (s : State) (h : s.service.state = .receiving) (kind arg check : Byte)
    (n : s.service.bytes ≠ []) (p : s.service.bytes <+: [0x6D#8, 5#8, kind, arg]) :
    s.takeBytes (s.bytesToCome [0x6D#8, 5#8, kind, arg, check])
      = s.portIdle.takeBytes [0x6D#8, 5#8, kind, arg, check] := by
  rw [State.takeBytes_five _ rfl]
  have c : s.service.bytes = [0x6D#8] ∨ s.service.bytes = [0x6D#8, 5#8] ∨ s.service.bytes = [0x6D#8, 5#8, kind]
      ∨ s.service.bytes = [0x6D#8, 5#8, kind, arg] := by
    revert n p
    generalize s.service.bytes = l
    intro n p
    match l, n, p with
    | [a], _, p => simp_all
    | [a, b], _, p => simp_all
    | [a, b, c], _, p => simp_all
    | [a, b, c, d], _, p => simp_all
    | _ :: _ :: _ :: _ :: _ :: _, _, p => simp_all
  rcases c with c | c | c | c
  · simp [State.bytesToCome, State.takeBytes, State.takeByte, h, c, State.receiveByte, State.receivedUpTo, State.portIdle,
      State.after]
  · simp [State.bytesToCome, State.takeBytes, State.takeByte, h, c, State.receiveByte, State.receivedUpTo, State.portIdle,
      State.after]
  · simp [State.bytesToCome, State.takeBytes, State.takeByte, h, c, State.receiveByte, State.receivedUpTo, State.portIdle,
      State.after]
  · rw [← State.takeMessage_received s h _ _ c]
    simp [State.bytesToCome, State.takeBytes, State.takeByte, h, c, State.receiveByte]

end Sys2Proof.Machine
end

