-- ==== Sys2Proof/Tests/Slice0.lean ====
section
/-! SUPPORT. Tests of the card: the well-formedness checks, the manual's worked examples one step at a time, and for
every statement of Certificates/Slice0 that has hypotheses a concrete card that meets them. -/

namespace Sys2Proof.Tests

open Sys2Proof Sys2Proof.Machine

/-! ### Small cards -/

/-- The configuration of set B of the worked case of 4.7, with two shed groups and one heavy consumer. -/
def conf : Configuration :=
  { identity := 1, ownSection := 1, fNom := 60000, rating := 12000, reactiveRating := 9000, vNom := 6600
    kp := 64, kf := 32, kq := 48, kv := 24, rampStep := 25, startRank := 1, select := .any, threshold := 8
    groups := [{ index := 0, rank := 9, nominal := 400, sheddable := true }
              , { index := 3, rank := 2, nominal := 700, sheddable := true }]
    demands := [300] }

/-- What a peer's frame says of a set that shares 6,400 of 8,000 kW. -/
def peerRecord : PeerRecord :=
  { islandSection := 1, startRank := 2, tieView := TieView.allOpen, setState := .sharing
    flags := { breakerClosed := true, stale := false, droop := false, configFault := false, unloadPending := false }
    rating := 8000, reactiveRating := 6000, p := 6400, q := 4500, frequency := 59880, actionAge := 255
    groups := [], claims := [] }

/-- A peer's frame with a number. -/
def peerFrame (number : Nat) : Frame := { kind := .periodic, station := 4, number, content := peerRecord }

/-- A peer entry of a state that took frame 10 at the start. -/
def peerEntry (st : EntryState) : PeerEntry :=
  { PeerEntry.empty 0 0 with
    state := st, lastNumber := some 10, lastTime := some 0, timerFrom := some 0, record := some peerRecord }

/-- A card in a mode on the configuration, its own set in a state, otherwise as at reset. -/
def card (mode : CardMode) (st : SetState) : State :=
  { State.reset with
    loader := { State.reset.loader with mode, config := some conf, loadTimer := none }
    seq := { State.reset.seq with state := st } }

/-- The card in RUN with its set in SHARING. -/
def sharing : State := card .run .sharing

/-- The same card with one lane interface replaced. -/
def withLane (f : LaneIf → LaneIf) : State := { sharing with laneA := f sharing.laneA }

/-- The same card with a peer entry of station 5. -/
def withPeer (st : EntryState) : State := sharing.setEntry 4 (peerEntry st)

/-- The island in ISOCH. -/
def isoch (s : State) : State := { s with island := { s.island with mode := .isoch } }

/-- A measurement that passes the self-check. -/
def measured (p q frequency voltage : Int) : Measurement :=
  { referenceHeld := true, channelsDone := true, p, q, frequency, voltage }

/-- The card with an interval timer that runs, past warm-up. -/
def metered (s : State) : State := { s with metering := { interval := some 50, latest := none, warmUp := 0 } }

/-- A whole reception of the bytes of a frame. -/
def received (bs : List Byte) : Reception :=
  { bytes := bs.map (fun b => { value := b, stopActive := false }), endsPartWay := false }

/-- A card that is receiving on lane A. -/
def receiving (s : State) : State := { s with laneA := { s.laneA with receiving := true, quietFrom := .notIdle } }

/-- The outcome of a command, where it is a next state, as a test reads it. -/
def after (c : Instr) (s : State) : State :=
  match exec c s with
  | .next t => t
  | _ => s

theorem awake_card (mode : CardMode) (st : SetState) (h : mode ≠ .load) : (card mode st).Awake := ⟨rfl, h⟩

theorem awake_sharing : sharing.Awake := awake_card .run .sharing (by decide)

/-! ### Well-formedness: each check refuses an ill-formed command -/

/-- LOAD_READ_DONE brings all 27 words (R166). -/
theorem test_wellFormed_readDone :
    (Instr.loadReadDone { identity := 0, strapSection := 0, ratingClass := 0, frequency := 0 } []).wellFormed = false := by
  decide

/-- LOAD_TIMEOUT brings fewer than 27 words (R166). -/
theorem test_wellFormed_timeout :
    (Instr.loadTimeout { identity := 0, strapSection := 0, ratingClass := 0, frequency := 0 }
      (List.replicate 27 0)).wellFormed = false := by decide

/-- A request of good form is no BAD_REQUEST (R174). -/
theorem test_wellFormed_goodRequest : (Instr.badRequest (requestBytes 1 [])).wellFormed = false := by decide

/-- A request begins with 0x6D (R172). -/
theorem test_wellFormed_start : (Instr.badRequest [0x6C, 4, 1, 0]).wellFormed = false := by decide

/-- The length byte gives the length (R172). -/
theorem test_wellFormed_length : (Instr.badRequest [0x6D, 5, 1, 0]).wellFormed = false := by decide

/-- A request is 4 or 5 bytes long (R172). -/
theorem test_wellFormed_short : (Instr.badRequest [0x6D, 3, 1]).wellFormed = false := by decide

/-- A bad check makes a BAD_REQUEST (R174). -/
theorem test_wellFormed_badCheck : (Instr.badRequest [0x6D, 4, 1, 0]).wellFormed = true := by decide

/-! ### The table gives no words -/

theorem test_decode_none : decodeTableWord 8 0 = none := rfl

theorem test_withFetchWord : State.reset.withFetchWord 8 0 = State.reset := rfl

/-! ### The manual's worked values -/

set_option maxRecDepth 20000 in
/-- The check of R2 over the nine characters 1 to 9 is 0x29B1, the published value of this polynomial from all ones. -/
theorem test_crc : crc [0x31, 0x32, 0x33, 0x34, 0x35, 0x36, 0x37, 0x38, 0x39] = 0x29B1 := by rfl

/-- 4.7: s, p* and q of the three sets. -/
theorem test_perUnit : [perUnit 9000 12000, perUnit 7800 12000, perUnit 6400 8000, perUnit 23200 32000]
    = [7500, 6500, 8000, 7250] := by decide

/-- 4.7: the increments of the speed bias, −12, 51 and −43. -/
theorem test_increment_speed :
    [increment 64 (-250) 32 120, increment 64 750 32 120, increment 64 (-750) 32 120] = [-12, 51, -43] := by decide

/-- 4.7: the increments of the voltage bias, 1, 48 and −70. -/
theorem test_increment_voltage :
    [increment 48 0 24 30, increment 48 1000 24 30, increment 48 (-1500) 24 30] = [1, 48, -70] := by decide

/-- 4.4: a half is rounded away from zero, −12.5 to −13. -/
theorem test_roundDiv_half : [roundDiv (-12800) 1024, roundDiv (-8960) 1024, roundDiv 5760 1024] = [-13, -9, 6] := by
  decide

/-- 4.7: a bias at 9,990 moved by 51 saturates at 10,000 (R72). -/
theorem test_bias_saturates : moveBias 9990 51 = 10000 := by decide

/-- 4.7: an error of −40 lies within the deadband of 50, and 15 within that of 20. -/
theorem test_deadband : (deadband 50 (-40), deadband 20 15, deadband 50 51) = (0, 0, 51) := by decide

/-- 4.4: the ramp target of the loading ramp, from 50 by 25, and e_P of records 2 and 3. -/
theorem test_ramp_loading : (stepRamp 25 .loading (some 50) 50 (some 7250)).ramp = some 75
    ∧ errorOf 50 (some 100) 50 = 0 ∧ errorOf 50 (some 125) 50 = 75 := by decide

/-- 4.4: the ramp of an unloading stops at 500, and s = 590 gives the unloaded notice. -/
theorem test_ramp_unloading : (stepRamp 25 .unloading (some 525) 700 none).ramp = some 500
    ∧ (stepRamp 25 .unloading (some 500) 640 none).ramp = some 500
    ∧ noticeOf .unloading false 640 = none ∧ noticeOf .unloading false 590 = some .unloaded := by decide

/-- R6: 300 µs times the identity and 1,000 µs times the count. -/
theorem test_backoff : backoffTime 2 3 = 3900 := by decide

/-- R26: distances are counted round the numbers 1 to 255. -/
theorem test_distance : [distance 1 255, distance 255 1, distance 7 7] = [1, 254, 0] := by decide

/-- R40: the section set with TIE-2 open and the others closed. -/
theorem test_sections : islandSections 3 { tie1 := true, tie2 := false, tie3 := true } = [3, 4] := by decide

/-! ### A frame on the lane -/

/-- R2: the bytes of a frame before its check, written out from the layout table. -/
theorem test_frame_bytes : (peerFrame 10).covered =
    [0x01, 0x05, 0x0A, 0x21, 0x00, 0x04, 0x01, 0x1F, 0x40, 0x17, 0x70, 0x19, 0x00, 0x11, 0x94, 0xE9, 0xE8, 0xFF, 0x00] := by
  decide

set_option maxRecDepth 20000 in
/-- R8: a frame with a bad check is bad. -/
theorem test_parse_badCheck : parseFrame ((peerFrame 10).bytes.dropLast ++ [0]) = none := by rfl

/-! ### Cards that meet the statements' hypotheses -/

theorem test_meets_StepRunsFrontCommand :
    ({ State.reset with pending := [Instr.powerOn] }).pending = Instr.powerOn :: [] := rfl

theorem test_meets_IdleStepLetsTimePass : State.reset.pending = [] := rfl

theorem test_meets_LoadTakesNoEvent : State.reset.loader.mode = .load ∧ exec .status State.reset = .next State.reset :=
  ⟨rfl, rfl⟩

/-- A card without supply: in LOAD too, the end of LOAD does not reach it. -/
theorem test_meets_LoadTakesNoEvent_dark :
    let s : State := { State.reset with powered := false }
    s.powered = false ∧ exec (.loadTimeout s.loader.straps []) s = .next s ∧ exec .lossOfPower s = .next s :=
  ⟨rfl, rfl, rfl⟩

theorem test_meets_LoadEndsInListen : State.reset.powered = true ∧ State.reset.loader.mode = .load
    ∧ (List.replicate 27 (0 : Word)).length = 27 ∧ (List.replicate 26 (0 : Word)).length < 27
    ∧ State.reset.loader.loadTimer = some 50000 := by decide

/-- A card in LISTEN with a REQUEST level on both inputs, whose lanes no command has shown since the entry to LISTEN. -/
def listening (request : Bool) : State :=
  { card .listen .loading with
    laneA := { LaneIf.reset with quietFrom := .unseen 80 }, laneB := { LaneIf.reset with quietFrom := .unseen 80 }
    loader := { (card .listen .loading).loader with listenTimer := some 1000000 }
    pins := { State.reset.pins with request := Vector.replicate 2 request } }

/-- A card in LISTEN with a REQUEST high on an IDLE claim of a configured consumer. -/
theorem test_meets_ListenExpiryEntersRun :
    let s := listening true
    s.Awake ∧ s.loader.listenTimer = some 1000000 ∧ s.composer.spacing = none ∧ s.composer.waiting = none
      ∧ s.demand 0 = some 300 ∧ (s.claim 0).state = .idle ∧ s.pins.request[0] = true ∧ s.demand 1 = none
      ∧ (s.lane .a).tx = .idle ∧ (s.lane .a).quietFrom = .unseen 80 := by
  refine ⟨⟨rfl, by decide⟩, ?_⟩; decide

/-- R19, R4: on a lane that has been idle for 80 µs since the entry to LISTEN the first frame enters SEND at once; on one
that has not it waits in DEFER. -/
theorem test_first_frame_waits_for_the_lane :
    let x : LaneIf := { LaneIf.reset with quietFrom := .unseen 80 }
    (((x.seeIdle true).handOver 1000000 (peerFrame 1)).tx, ((x.seeIdle false).handOver 1000000 (peerFrame 1)).tx)
      = (.send, .defer) := by decide

/-- R15: a REQUEST taken at the entry to RUN asks for an urgent frame behind the first one; without it none waits. -/
theorem test_request_at_run_is_urgent :
    ((after .listenTimerExpiry (listening true)).composer.waiting
      , (after .listenTimerExpiry (listening false)).composer.waiting) = (some .urgent, none) := by decide

theorem test_meets_IdleLane :
    let s (q : Quiet) := withLane (fun x => { x with quietFrom := q, tx := .defer })
    (s (.since 0)).Awake ∧ ((s (.since 0)).lane .a).quietFrom = .since 0
      ∧ ((s (.unseen 80)).lane .a).quietFrom = .unseen 80 ∧ ((s (.since 0)).lane .a).stuck = false
      ∧ ((s (.unseen 80)).lane .a).tx = .defer :=
  ⟨awake_sharing, rfl, rfl, rfl, rfl⟩

theorem test_meets_BrokenAndBad :
    let s := receiving sharing
    s.Awake ∧ (s.lane .a).receiving = true ∧ (s.lane .a).stuck = false
      ∧ receptionBroken { bytes := [], endsPartWay := true } = true
      ∧ receptionBroken (received []) = false ∧ parseFrame ((received []).bytes.map (·.value)) = none :=
  ⟨awake_sharing, rfl, rfl, rfl, rfl, rfl⟩

set_option maxRecDepth 20000 in
/-- A frame of the own identity, and one of a peer, read from their bytes. -/
theorem test_meets_OwnIdentityAndPeerFrame :
    let own : Frame := { peerFrame 10 with station := 1 }
    (receiving sharing).Awake ∧ receptionBroken (received own.bytes) = false
      ∧ parseFrame ((received own.bytes).bytes.map (·.value)) = some own ∧ own.station = sharing.own
      ∧ parseFrame ((received (peerFrame 10).bytes).bytes.map (·.value)) = some (peerFrame 10)
      ∧ (peerFrame 10).station ≠ sharing.own
      ∧ (receiving (card .listen .off)).Awake ∧ (receiving (card .mute .off)).Awake :=
  ⟨awake_sharing, rfl, rfl, rfl, rfl, by decide, ⟨rfl, by decide⟩, ⟨rfl, by decide⟩⟩

theorem test_meets_FrameCompletesAndBackoffEnds :
    let s := withLane (fun x => { x with tx := .send, sendStart := some 0, pendingFrame := some (peerFrame 1) })
    let b := withLane (fun x => { x with tx := .backoff, backoff := some 1300, quietFrom := .since 0 })
    s.Awake ∧ (s.lane .a).tx = .send ∧ (s.lane .a).sendStart = some 0 ∧ b.Awake ∧ (b.lane .a).backoff = some 1300
      ∧ (b.lane .a).isIdle (b.advanceTo 1300).now = true := by
  refine ⟨awake_sharing, rfl, rfl, awake_sharing, rfl, ?_⟩; decide

theorem test_meets_CollisionJamsAndBacksOff :
    let s := withLane (fun x => { x with tx := .send })
    let j := withLane (fun x => { x with tx := .send, jam := some 48, attempts := 7, pendingFrame := some (peerFrame 1) })
    s.Awake ∧ (s.lane .a).tx = .send ∧ (s.lane .a).jam = none ∧ j.Awake ∧ (j.lane .a).jam = some 48
      ∧ 7 ≤ (j.lane .a).attempts := by
  refine ⟨awake_sharing, rfl, rfl, awake_sharing, rfl, ?_⟩; decide

theorem test_meets_StuckLaneIsTestedAndEnds :
    let s := withLane (fun x => { x with tx := .send })
    let e := withLane (fun x => { x with tx := .defer, stuck := true })
    s.Awake ∧ (s.lane .a).stuck = false ∧ (s.lane .a).tx ≠ .disabled ∧ e.Awake ∧ (e.lane .a).stuck = true :=
  ⟨awake_sharing, rfl, by decide, awake_sharing, rfl⟩

theorem test_meets_DriverTestEnds :
    let s := withLane (fun x => { x with tx := .isolated, test := some 10000 })
    let e := withLane (fun x => { x with tx := .isolated })
    s.Awake ∧ (s.lane .a).tx = .isolated ∧ (s.lane .a).test = some 10000 ∧ (e.lane .a).test = none :=
  ⟨awake_sharing, rfl, rfl, rfl⟩

theorem test_meets_LaneTimersJudgeTheLane :
    let s := withLane (fun x => { x with errorWindow := some 1000000, silence := some 1000000 })
    s.Awake ∧ (s.lane .a).errorWindow = some 1000000 ∧ (s.lane .a).silence = some 1000000 :=
  ⟨awake_sharing, rfl, rfl⟩

theorem test_meets_FrameSurvivesTheLane : (peerFrame 10).Good := by decide

set_option maxRecDepth 20000 in
/-- Bytes that the receiver takes (R8), the last of R2's reserved bits set in the flags among them. -/
theorem test_meets_FrameSurvivesTheLane_received :
    let head := ((peerFrame 10).bytes.take 21).set 8 0x21
    let check := bytes16 (crc (head.drop 2)).toNat
    parseFrame (head ++ check) = some (peerFrame 10) ∧ parseFrame (head.set 0 0xC2 ++ check) = none
      ∧ parseFrame (head ++ 0 :: check) = none := by
  refine ⟨?_, ?_, ?_⟩ <;> rfl

/-- The card in RUN on the straps and the empty image of the reset state. -/
def onStraps : State :=
  { sharing with loader := { sharing.loader with
      config := some (formConfiguration sharing.loader.straps sharing.loader.image) } }

theorem test_meets_ComposedFrameIsGood : onStraps.loader.mode ≠ .load ∧ onStraps.ComposerSafe ∧ onStraps.CountsSafe := by
  have h : ∀ i, (onStraps.entry i) = PeerEntry.empty 0 0 := by decide
  refine ⟨by decide, ⟨fun _ => rfl, by decide, by decide, by decide⟩, by decide, ?_, by decide, by decide, by decide,
    by decide, by decide, by decide⟩
  intro i; simp [h i, PeerEntry.empty]

/-- A composer with a request that waits and a spacing timer that runs. -/
def waiting (arrival : Bool) : State :=
  { sharing with
    composer := { sharing.composer with spacing := some 10000, waiting := some .urgent, arrival }
    metering := { sharing.metering with latest := some (formRecord (measured 7800 4500 59880 6570) 6600) } }

theorem test_meets_ComposerTimersMakeTheFrames :
    let s : State := { sharing with composer := { sharing.composer with frameTimer := some 100000 } }
    s.Awake ∧ s.loader.mode = .run ∧ s.composer.frameTimer = some 100000 ∧ s.composer.spacing = none
      ∧ (waiting true).Awake ∧ (waiting true).composer.spacing = some 10000 :=
  ⟨awake_sharing, rfl, rfl, rfl, awake_sharing, rfl⟩

theorem test_meets_CompositionJudgesTheMetering :
    let s : State := { sharing with composer := { sharing.composer with frameTimer := some 100000 } }
    s.loader.mode = .run ∧ s.composer.frameTimer = some 100000 ∧ s.composer.spacing = none
      ∧ (waiting false).Awake ∧ (waiting false).composer.waiting = some .urgent
      ∧ (waiting true).metering.latest = some (formRecord (measured 7800 4500 59880 6570) 6600) :=
  ⟨rfl, rfl, rfl, awake_sharing, rfl, rfl⟩

/-- The card with a frame of station 5 in its queue and an entry for it. -/
def queued (st : EntryState) (f : Frame) : State :=
  { withPeer st with rx := { sharing.rx with frames := [(.a, f)] } }

/-- The boundaries of the distances: 0 and 128 are counted, 127 is accepted; a STALE entry accepts 128 (R26). -/
theorem test_verdicts :
    verdict (peerEntry .live) 10 = .dualCopy ∧ verdict (peerEntry .live) 137 = .accepted
      ∧ verdict (peerEntry .live) 138 = .lateFrame ∧ verdict (peerEntry .stale) 138 = .accepted := by decide

theorem test_meets_DualAndLateFramesAreCounted :
    let s := queued .live (peerFrame 138)
    s.Awake ∧ s.rx.frames = [(.a, peerFrame 138)] ∧ (s.entry 4).state = .live ∧ (s.entry 4).lastNumber = some 10
      ∧ (138 + 255 - 10) % 255 = 128 := by
  refine ⟨awake_sharing, rfl, ?_⟩; decide

theorem test_meets_AcceptedFrameReplacesTheRecord :
    let s := queued .qualifying (peerFrame 11)
    s.Awake ∧ s.rx.frames = [(.a, peerFrame 11)] ∧ (s.entry 4).lastNumber = some 10
      ∧ (s.entry 4).state = .qualifying ∧ (s.entry 4).lastTime = some 0 ∧ (11 + 255 - 10) % 255 ≤ 127 := by
  refine ⟨awake_sharing, rfl, ?_⟩; decide

/-- A frame that repeats TRIPPED, and one that reports it at an entry that is QUALIFYING, are no trip notices (R30). -/
theorem test_meets_AcceptedFrame_noNotice :
    let f : Frame := { peerFrame 11 with content := { peerRecord with setState := .tripped } }
    let s := (queued .live f).setEntry 4 { peerEntry .live with record := some f.content }
    s.Awake ∧ (s.entry 4).record = some f.content ∧ f.content.setState = .tripped
      ∧ tripNoticeOf 4 (s.entry 4) f = none ∧ ((queued .qualifying f).entry 4).state = .qualifying := by
  refine ⟨awake_sharing, ?_⟩; decide

theorem test_meets_PeerTripIsNoticed :
    let f : Frame := { peerFrame 11 with content := { peerRecord with setState := .tripped } }
    let s := queued .live f
    s.Awake ∧ s.rx.frames = [(.a, f)] ∧ f.station ≠ s.own ∧ (s.entry 4).lastNumber = some 10
      ∧ (s.entry 4).record = some peerRecord ∧ peerRecord.setState = .sharing
      ∧ 1 ∈ islandSections s.conf.ownSection s.island.tieView := by
  refine ⟨awake_sharing, rfl, ?_⟩; decide

/-- R138, R139: a peer of 6,400 kW trips beside an own set at 6,600 of 12,000 kW. The deficit of 1,000 kW takes the
group of rank 2 with 700 kW, and that of rank 9 with 400 kW. -/
theorem test_peer_trip_sheds :
    let f : Frame := { peerFrame 11 with content := { peerRecord with setState := .tripped } }
    let up : Channel := { Channel.reset with state := some .connected }
    let s := ((queued .live f).setChannel 0 up).setChannel 3 up
    let t := after .intake { s with island := { s.island with ownP := 6600 } }
    ((t.channel 3).state, (t.channel 0).state, t.alarms.latched.contains .shedExhausted)
      = (some .shedPending, some .shedPending, false) := by decide

/-- R135: the peer's group leaves the ladder with its entry, and the held request sheds the own group. -/
theorem test_held_step_begins :
    let s := (withPeer .stale).setChannel 3 { Channel.reset with state := some .connected }
    let t := after (.entryTimer1000 4) { s with ladder := { s.ladder with
      inFlight := some { station := 4, index := 0 }, handOff := some 1000000, held := true } }
    (t.ladder.inFlight, t.ladder.held, (t.channel 3).state) = (none, false, some .shedPending) := by decide

theorem test_meets_SilentEntryFades :
    (withPeer .live).Awake ∧ ((withPeer .live).entry 4).timerFrom = some 0
      ∧ ((withPeer .stale).entry 4).state = .stale ∧ peerRecord.setState.online = true
      ∧ ((withPeer .qualifying).entry 4).state = .qualifying :=
  ⟨awake_sharing, rfl, rfl, rfl, rfl⟩

theorem test_meets_TieInputsReshapeTheIsland :
    let s : State := { sharing with island := { sharing.island with tieFilters := Vector.replicate 3 (some 50000) } }
    s.Awake ∧ s.pins.ties[(1 : Fin 3)] ≠ true ∧ s.island.tieFilters[(1 : Fin 3)] = some 50000 := by
  refine ⟨awake_sharing, ?_⟩; decide

/-- A card in RUN in DROOP without a cause, its island brought up to date: the return timer has started. -/
theorem test_meets_ReturnTimerBringsIsoch :
    sharing.resolve.Awake ∧ sharing.resolve.IslandSafe ∧ sharing.resolve.island.returnTimer = some 2000000 := by
  refine ⟨awake_sharing, ⟨rfl, ?_, fun _ => State.resolve_resolve _⟩, ?_⟩ <;> decide

theorem test_meets_PeerContributesByItsState :
    let s := withPeer .live
    (4 : Station) ≠ s.own ∧ (s.entry 4).state = .live ∧ (s.entry 4).record = some peerRecord
      ∧ peerRecord.islandSection ∈ islandSections s.conf.ownSection s.island.tieView
      ∧ ((withPeer .phantom).entry 4).state = .phantom := by decide

/-- R50: with no cause a card in DROOP whose timer is stopped starts it, and a running one stands; a PHANTOM member of the
island is a cause. -/
theorem test_meets_PeerContributes_sharing :
    let s : State := { withPeer .live with now := 7 }
    let r : State := { s with island := { s.island with returnTimer := some 9 } }
    let p : State := { withPeer .phantom with island := { s.island with returnTimer := some 9 } }
    s.island.mode = .droop ∧ s.island.returnTimer = none ∧ s.resolve.island.returnTimer = some 2000007
      ∧ r.resolve.island.returnTimer = some 9 ∧ (isoch s).resolve.island.mode = .isoch
      ∧ p.resolve.island.returnTimer = none ∧ (isoch (withPeer .phantom)).resolve.island.mode = .droop := by decide

theorem test_meets_MeteringIntervalFormsARecord :
    let s := metered sharing
    let m := measured 7800 4500 59880 6570
    s.Delivers m 50 ∧ { m with referenceHeld := false }.referenceHeld = false :=
  ⟨⟨awake_sharing, rfl, rfl, rfl, rfl⟩, rfl⟩

/-- 4.7 at set B alone with set C: a worked record, and a record held in DROOP. -/
theorem test_meets_RecordMovesTheBiases :
    let m := measured 7800 4500 59880 6570
    let s := metered (isoch (withPeer .live))
    s.Delivers m 50 ∧ s.loader.mode = .run ∧ s.seq.state.online = true
      ∧ ¬ ((s.foundBy m 50).mode = .droop ∨ (formRecord m s.conf.vNom).busValid = false ∨ s.seq.state = .opening)
      ∧ ((metered sharing).foundBy m 50).mode = .droop := by
  refine ⟨⟨awake_sharing, rfl, rfl, rfl, rfl⟩, ?_⟩; decide

theorem test_meets_RampsEndInSharingAndOpening :
    let m := measured 700 0 60000 6600
    let s (st : SetState) : State := { metered (isoch (card .run st)) with
      regulator := { State.reset.regulator with rampTarget := some 525 } }
    (s .unloading).Delivers m 50 ∧ ((s .unloading).foundBy m 50).mode = .isoch
      ∧ (formRecord m conf.vNom).busValid = true ∧ (s .loading).seq.state = .loading := by
  refine ⟨⟨⟨rfl, by decide⟩, rfl, rfl, rfl, rfl⟩, ?_⟩; decide

/-- The two sides of a limit: the 100th and the 99th record of an overload at exactly R_cap (R133). -/
theorem test_meets_StageCountersStepWithTheRecord :
    let m := measured 12000 0 60000 6600
    let s := metered sharing
    s.Delivers m 50 ∧ (s.foundBy m 50).rCap = 12000 ∧ (s.foundBy m 50).pLoad = 12000 := by
  refine ⟨⟨awake_sharing, rfl, rfl, rfl, rfl⟩, ?_⟩; decide

theorem test_meets_BreakerEdges :
    let s : State := { sharing with pins := { sharing.pins with breaker := true } }
    sharing.Awake ∧ sharing.pins.breaker = false ∧ s.Awake ∧ s.pins.breaker = true ∧ s.seq.state = .sharing
      ∧ s.loader.mode = .run ∧ s.composer.spacing = none ∧ (card .listen .loading).Awake :=
  ⟨awake_sharing, rfl, awake_sharing, rfl, rfl, rfl, rfl, rfl, by decide⟩

/-- R16, R76: a breaker that closes on a STANDBY set is composed at once as URGENT, or waits as urgent behind a spacing
timer that runs. -/
theorem test_urgent_request :
    let s := card .run .standby
    let t := after .breakerCloseEdge s
    let u := after .breakerCloseEdge { s with composer := { s.composer with spacing := some 10000 } }
    (t.laneA.pendingFrame.map (·.kind), t.laneA.pendingFrame.map (·.content.setState), t.composer.waiting
      , u.laneA.pendingFrame, u.composer.waiting)
      = (some .urgent, some .loading, none, none, some .urgent) := by decide

/-- 8.7: the frame of an own trip still shows the group CONNECTED, and the group that is then shed asks for the next. -/
theorem test_trip_frame_before_the_shed :
    let s := (sharing.setChannel 3 { Channel.reset with state := some .connected }).relist
    let s : State := { s with pins := { s.pins with breaker := true }, island := { s.island with ownP := 6600 } }
    let t := after .breakerOpenEdge s
    (t.laneA.pendingFrame.map (fun f => f.content.groups.map (·.state)), (t.channel 3).state, t.composer.waiting)
      = (some [.connected], some .shedPending, some .urgent) := by decide

theorem test_meets_EngineInputsMoveTheSet :
    (card .run .off).Awake ∧ (card .run .off).pins.running ≠ true ∧ (card .run .off).pins.available ≠ true :=
  ⟨⟨rfl, by decide⟩, by decide, by decide⟩

/-- The unload check at its bound: two sets online and 95 % of the rest exactly. -/
theorem test_meets_UnloadRequestIsTaken :
    let s : State := { sharing with island := { sharing.island with online := 2, rCap := 20000, pLoad := 7600 } }
    s.Awake ∧ s.pins.unload ≠ true ∧ 2 ≤ s.island.online
      ∧ 100 * s.island.pLoad ≤ 95 * ((s.island.rCap : Int) - s.conf.rating) := by
  refine ⟨awake_sharing, ?_⟩; decide

theorem test_meets_SetTimersExpire :
    let s (st : SetState) : State := { card .run st with seq := { State.reset.seq with
      state := st, startTimer := some 1, unloadTimer := some 2, openingTimer := some 3 } }
    (s .starting).Awake ∧ (s .starting).seq.startTimer = some 1 ∧ (s .unloading).seq.unloadTimer = some 2
      ∧ (s .opening).seq.openingTimer = some 3 :=
  ⟨⟨rfl, by decide⟩, rfl, rfl, rfl⟩

theorem test_meets_PulsesEnd :
    let c : Channel := { Channel.reset with state := some .connected, close := some 200000, tripHeld := true }
    let s : State := { sharing.setChannel 3 c with seq := { sharing.seq with startPulse := some 1000000 } }
    s.Awake ∧ s.seq.pulse .start = some 1000000 ∧ (s.channel 3).close = some 200000
      ∧ (s.channel 3).tripHeld = true :=
  ⟨awake_sharing, rfl, rfl, rfl⟩

/-- A card in RUN whose evaluation timer runs, alone in its island. -/
def evaluating (st : SetState) (online rCap : Nat) (pLoad : Int) : State :=
  { card .run st with
    duty := { State.reset.duty with evaluation := some 100000 }
    island := { State.reset.island with members := [1], sections := [1], online, rCap, pLoad } }

theorem test_meets_EvaluationFormsTheNeeds :
    (evaluating .standby 0 0 0).Awake ∧ (evaluating .standby 0 0 0).duty.evaluation = some 100000 :=
  ⟨⟨rfl, by decide⟩, rfl⟩

theorem test_meets_NeedStartsASetOrAbortsAnUnload :
    let s := evaluating .standby 0 0 0
    s.Awake ∧ s.duty.evaluation = some 100000 ∧ s.island.online < 2
      ∧ (∀ i ∈ s.island.members, s.memberState i ≠ some .starting) ∧ s.own ∈ s.island.members
      ∧ s.seq.state = .standby
      ∧ (∀ i ∈ s.island.members, s.memberState i = some .standby →
          s.conf.startRank < s.memberRank i ∨ (s.conf.startRank = s.memberRank i ∧ s.own ≤ i))
      ∧ s.seq.stopPulse = none ∧ s.island.members.Nodup := by
  refine ⟨⟨rfl, by decide⟩, ?_⟩; decide

/-- R107: SHARING members of start ranks 1, 2, 4 and 4 with identities 3, 1, 2 and 6 give the order 3, 1, 2, 6. -/
theorem test_order :
    let peer (rank : Nat) : PeerEntry := { peerEntry .live with record := some { peerRecord with startRank := rank } }
    let s : State := { sharing with
      loader := { sharing.loader with config := some { conf with startRank := 4 } }
      island := { sharing.island with members := [0, 1, 2, 5] } }
    (((s.setEntry 0 (peer 2)).setEntry 2 (peer 1)).setEntry 5 (peer 4)).inOrder .sharing = [2, 0, 1, 5] := by decide

/-- The stop check at its bounds: three sets online and 75 % of the rest exactly. -/
theorem test_meets_EvaluationStopsTheLastSet :
    let s := evaluating .sharing 3 28000 11200
    s.Awake ∧ s.duty.evaluation = some 100000 ∧ 2 < s.island.online
      ∧ ¬ (0 < s.island.rCap ∧ 85 * (s.island.rCap : Int) ≤ 100 * s.island.pLoad)
      ∧ 100 * s.island.pLoad ≤ 40 * (s.island.rCap : Int) ∧ s.islandClaims = []
      ∧ s.own ∈ s.island.members ∧ s.seq.state = .sharing
      ∧ (∀ i ∈ s.island.members, s.memberState i = some .sharing →
          s.memberRank i < s.conf.startRank ∨ (s.memberRank i = s.conf.startRank ∧ i ≤ s.own))
      ∧ 100 * s.island.pLoad ≤ 75 * ((s.island.rCap : Int) - s.conf.rating) := by
  refine ⟨⟨rfl, by decide⟩, ?_⟩; decide

theorem test_meets_FeedbackMovesTheGroup :
    let c : Channel := { Channel.reset with state := some .shedPending, window := some 500000 }
    let s := sharing.setChannel 3 c
    s.Awake ∧ s.pins.feedback[(3 : Fin 6)] ≠ true ∧ (s.channel 3).state = some .shedPending
      ∧ (s.channel 3).window = some 500000 := by
  refine ⟨awake_sharing, ?_⟩; decide

theorem test_meets_PlainTimersExpire :
    let s : State := { withPeer .live with
      duty := { State.reset.duty with tripRecent := some 5000000 }
      groups := { State.reset.groups with closeSpacing := some 5000000 }
      ladder := { State.reset.ladder with ageTimer := some 5000000 } }
    s.Awake ∧ s.duty.tripRecent = some 5000000 ∧ s.groups.closeSpacing = some 5000000
      ∧ s.ladder.ageTimer = some 5000000 ∧ ((PeerEntry.empty 0 0).hear .a 0).heardA = some 500000 :=
  ⟨awake_sharing, rfl, rfl, rfl, rfl⟩

/-- A slow step in flight on a peer's group, and an own group behind it. -/
def stepping : State :=
  { sharing with ladder := { sharing.ladder with
      inFlight := some { station := 4, index := 0 }, handOff := some 1000000
      entries := [{ station := 4, index := 0, rank := 1, nominal := 500, state := .connected, owner := .live }
                 , { station := 1, index := 3, rank := 2, nominal := 700, state := .connected, owner := .own }] } }

theorem test_meets_HandOffExpirySkipsAndContinues :
    stepping.Awake ∧ stepping.ladder.handOff = some 1000000
      ∧ stepping.ladder.inFlight = some { station := 4, index := 0 } :=
  ⟨awake_sharing, rfl, rfl⟩

/-- A request held behind a step in flight, on a ladder that is up to date and holds own groups alone. -/
theorem test_meets_HandOffExpiry_held :
    let s := (stepping.setChannel 3 { Channel.reset with state := some .connected }).relist
    let s : State := { s with ladder := { s.ladder with held := true } }
    s.Awake ∧ s.ladder.handOff = some 1000000 ∧ s.ladder.inFlight = some { station := 4, index := 0 }
      ∧ s.ladder.held = true ∧ s.LadderCurrent ∧ ∀ e ∈ s.ladder.entries, e.owner = .own := by
  refine ⟨awake_sharing, rfl, rfl, rfl, fun _ => rfl, ?_⟩
  decide

/-- R139: against a deficit of 500 the walk stops at the first entry, and against 501 it takes the second too. -/
theorem test_walk : (walk stepping.ladder 500 stepping.ladder.entries).length = 1
    ∧ (walk stepping.ladder 501 stepping.ladder.entries).length = 2 := by decide

theorem test_meets_OwnTripShedsTheChosenGroups :
    let s : State := { sharing with pins := { sharing.pins with breaker := true } }
    s.resolve.Awake ∧ s.resolve.IslandSafe ∧ s.resolve.loader.mode = .run ∧ s.resolve.pins.breaker = true
      ∧ s.resolve.seq.state ∈ [SetState.loading, .sharing, .unloading] := by
  refine ⟨awake_sharing, ⟨rfl, ?_, fun _ => State.resolve_resolve _⟩, rfl, rfl, ?_⟩ <;> decide

theorem test_meets_RestoreCheckRestoresTheLast :
    let e : LadderEntry := { station := 1, index := 3, rank := 2, nominal := 700, state := .shed, owner := .own }
    let s : State := { sharing with
      ladder := { sharing.ladder with restoreTimer := some 1000000, actionAge := 100, entries := [e] }
      island := { sharing.island with members := [1], rCap := 12000, pLoad := 9500 } }
    s.Awake ∧ s.ladder.restoreTimer = some 1000000 ∧ 100 ≤ s.islandActionAge ∧ 0 < s.island.rCap
      ∧ (s.island.pLoad + e.nominal) * 10000 ≤ 8500 * (s.island.rCap : Int) := by
  refine ⟨awake_sharing, ?_⟩; decide

/-- The headroom is nine tenths of R_cap less P_load, at its bound for a demand of 300 (R149, R151). -/
theorem test_meets_RequestEdgesOpenAndWithdrawAClaim :
    let s : State := { sharing with island := { sharing.island with rCap := 12000, pLoad := 10500 } }
    let r : State := { s with pins := { s.pins with request := Vector.replicate 2 true } }
    s.Awake ∧ s.demand 0 = some 300 ∧ s.pins.request[(0 : Fin 2)] = false ∧ s.claim 0 = Claim.reset
      ∧ s.headroomNow = 300 ∧ r.Awake ∧ r.pins.request[(0 : Fin 2)] = true := by
  refine ⟨awake_sharing, rfl, ?_, rfl, ?_, awake_sharing, ?_⟩ <;> decide

theorem test_meets_RequestEdges_islandClaims : sharing.TableSafe ∧ sharing.island.members.Nodup := by
  have h : ∀ i, (sharing.entry i) = PeerEntry.empty 0 0 := by decide
  refine ⟨⟨by decide, by decide, by decide, ?_, ?_, ?_⟩, by decide⟩
  · intro i _; simp [h i, PeerEntry.empty]
  · intro i _; simp [h i, PeerEntry.empty, PeerEntry.Blank]
  · intro i r hr; simp [h i, PeerEntry.empty] at hr

/-- R148, R150: a LIVE member's claim is an island claim and a PHANTOM's is not; a GRANTED one stands ahead of an older. -/
theorem test_island_claims :
    let x : ClaimItem := { index := 1, demand := 200, state := .granted, age := 2 }
    let s (st : EntryState) : State := (State.setEntry { sharing with island := { sharing.island with members := [1, 4] } } 4
      { peerEntry st with record := some { peerRecord with claims := [x] } }).setClaim 0
        { Claim.reset with state := .waiting, age := 9 }
    let a : IslandClaim := { station := 4, index := 1, state := .granted, demand := 200, age := 2 }
    let w : IslandClaim := { station := 1, index := 0, state := .waiting, demand := 300, age := 9 }
    (s .live).islandClaims = [w, a] ∧ (s .phantom).islandClaims = [w] ∧ a.ahead w = true ∧ w.ahead a = false := by
  decide

theorem test_meets_ClaimTimersJudgeTheClaim :
    let s (c : Claim) := sharing.setClaim 0 c
    let c : Claim := { Claim.reset with state := .claiming, window := some 300000, waiting := some 120000000 }
    let g : Claim := { Claim.reset with state := .granted, hold := some 30000000, grant := true }
    (s c).Awake ∧ ((s c).claim 0).state = .claiming ∧ ((s c).claim 0).window = some 300000
      ∧ ((s c).ownIslandClaim 0).isSome = true ∧ ((s c).claim 0).waiting = some 120000000
      ∧ ((s g).claim 0).hold = some 30000000 :=
  ⟨awake_sharing, rfl, rfl, rfl, rfl, rfl⟩

/-- R15: a claim that leaves CONSUMING asks for no frame, and one that leaves GRANTED asks for an urgent one. -/
theorem test_withdrawal_requests :
    let s (st : ClaimState) : State := { sharing.setClaim 0 { Claim.reset with state := st, grant := true } with
      pins := { sharing.pins with request := Vector.replicate 2 true }
      composer := { sharing.composer with spacing := some 10000 } }
    ((after (.requestFalling 0) (s .consuming)).composer.waiting, (after (.requestFalling 0) (s .granted)).composer.waiting)
      = (none, some .urgent) := by decide

/-- Two claims in WAITING: the older stands ahead. -/
theorem test_meets_RetestTakesTheWaitingInOrder :
    let s : State := { sharing with
      loader := { sharing.loader with config := some { conf with demands := [300, 500] } }
      admission := { sharing.admission with retest := some 100000 } }
    let w (age : Nat) : Claim := { Claim.reset with state := .waiting, age }
    let t := (s.setClaim 0 (w 5)).setClaim 1 (w 9)
    let a : IslandClaim := { station := 1, index := 1, state := .waiting, demand := 500, age := 9 }
    let c : IslandClaim := { station := 1, index := 0, state := .waiting, demand := 300, age := 5 }
    t.Awake ∧ t.admission.retest = some 100000 ∧ t.ownIslandClaim 0 = some c ∧ t.ownIslandClaim 1 = some a
      ∧ a.ahead c = true := by
  refine ⟨awake_sharing, rfl, ?_⟩; decide

/-- A card with its service port in IDLE, and in each other receive state. -/
def port (st : PortState) : State := { sharing with service := { sharing.service with state := st, gap := some 20000 } }

theorem test_meets_ServicePortIdle : (port .idle).Awake ∧ (port .idle).service.state = .idle
    ∧ (Instr.badRequest [0x6D, 4, 1, 0]).wellFormed = true := by
  refine ⟨awake_sharing, rfl, ?_⟩; decide

theorem test_meets_ClearingRequests :
    let s := (port .idle).setEntry 4 (peerEntry .phantom)
    s.Awake ∧ s.service.state = .idle ∧ (s.entry 4).state = .phantom ∧ (s.entry 5).state ≠ .phantom := by
  refine ⟨awake_sharing, ?_⟩; decide

theorem test_meets_InhibitAndEnableWorkTheGroup :
    let s := (port .idle).setChannel 3 { Channel.reset with state := some .inhibited }
    s.Awake ∧ s.service.state = .idle ∧ (s.channel 3).state = some .inhibited ∧ (s.channel 5).state = none := by
  refine ⟨awake_sharing, ?_⟩; decide

theorem test_meets_RestartWaitsForItsResponse :
    let s : State := { port .responding with
      seq := State.reset.seq, loader := { sharing.loader with restartInProgress := true } }
    s.Awake ∧ s.service.state = .responding ∧ s.loader.restartInProgress = true
      ∧ s.seq.state ∈ [SetState.off, .standby, .tripped, .startFailed] := by
  refine ⟨⟨rfl, by decide⟩, ?_⟩; decide

theorem test_meets_BytesAndGapsMoveThePort :
    (port .receiving).Awake ∧ (port .receiving).service.gap = some 20000 ∧ (port .resync).service.badLength = false :=
  ⟨awake_sharing, rfl, rfl⟩

/-- A request of which all but the last byte, or its first bytes, have been received, of good form and of bad. -/
theorem test_meets_BytesAndGaps_received :
    let s (bs : List Byte) : State := { port .receiving with service := { (port .receiving).service with bytes := bs } }
    (s [0x6D, 5, 11, 3]).Awake ∧ (s [0x6D, 5, 11, 3]).service.bytes = 0x6D :: [5, 11, 3]
      ∧ byteSum ([0x6D, 5, 11, 3] ++ [0x80]) = 0 ∧ (s [0x6D, 5]).service.bytes <+: 0x6D :: [5, 11, 3]
      ∧ (Instr.badRequest ((s [0x6D, 4, 1]).service.bytes ++ [0])).wellFormed = true
      ∧ (s [0x6D, 4]).service.bytes <+: [0x6D, 4, 1, 0] := by
  refine ⟨awake_sharing, ?_⟩; decide

/-- R173, R174: the last byte of INHIBIT of channel 3 has it taken. -/
theorem test_last_byte :
    let s : State := { (port .receiving).setChannel 3 { Channel.reset with state := some .connected } with
      service := { (port .receiving).service with bytes := [0x6D, 5, 11, 3] } }
    let t := after (.serviceByteReceived 0x80) s
    (t.channel 3).state = some .inhibited ∧ t.service.state = .responding := by decide

/-- The card right after reset with its power-on in the queue: it holds every invariant, and its step answers. -/
def atPowerOn : State := { State.reset with pending := [Instr.powerOn] }

theorem test_meets_StepKeepsOutputsSafe : (∃ t, step atPowerOn = .next t) ∧ atPowerOn.BiasesSafe ∧ atPowerOn.EngineSafe
    ∧ atPowerOn.PulsesSafe ∧ atPowerOn.GrantsSafe ∧ atPowerOn.MarksSafe := by
  refine ⟨⟨_, rfl⟩, ?_, ?_, ?_, ?_, ?_⟩
  · refine ⟨by decide, by decide, by decide, ?_, ?_⟩ <;>
      norm_num [State.speedBiasOutput, State.voltBiasOutput, biasVolts, atPowerOn, State.reset]
  · refine ⟨?_, ?_, ?_⟩ <;> decide
  · have h : ∀ i, (atPowerOn.channel i).trip = none := by decide
    intro i a ha
    simp [h i] at ha
  · show ∀ n : Fin 2, _
    decide
  · show ∀ n : Fin 2, _
    decide

theorem test_meets_StepKeepsTheTables : atPowerOn.TableSafe ∧ atPowerOn.LadderSafe := by
  have h : ∀ i, (atPowerOn.entry i) = PeerEntry.empty 0 0 := by decide
  refine ⟨⟨by decide, by decide, by decide, ?_, ?_, ?_⟩, ⟨by decide, by decide, ?_, by decide, ?_, by decide, by decide⟩⟩
  · intro i _; simp [h i, PeerEntry.empty]
  · intro i _; simp [h i, PeerEntry.empty, PeerEntry.Blank]
  · intro i r hr; simp [h i, PeerEntry.empty] at hr
  · exact List.Pairwise.nil
  · intro i r hr; simp [h i, PeerEntry.empty] at hr

theorem test_meets_StepKeepsWhatFollows : atPowerOn.AlarmsSafe ∧ atPowerOn.IslandSafe ∧ atPowerOn.LadderCurrent := by
  refine ⟨⟨by decide, fun h => absurd rfl h⟩, ⟨by decide, by decide, fun h => absurd rfl h⟩, fun h => absurd rfl h⟩

/-- A card past LOAD whose two configured groups are CONNECTED, with a ladder that is up to date. -/
theorem test_meets_StepKeepsWhatFollows_ladder :
    let c : Channel := { Channel.reset with state := some .connected }
    let s := ((sharing.setChannel 0 c).setChannel 3 c).relist
    s.LadderCurrent ∧ s.ChannelsSafe ∧ s.loader.mode ≠ .load
      ∧ s.ladder.entries.map LadderEntry.key = [{ station := 1, index := 3 }, { station := 1, index := 0 }] := by
  refine ⟨fun _ => rfl, ⟨by decide, ?_⟩, by decide, by decide⟩
  show ∀ i : Fin 6, _
  decide

theorem test_meets_StepKeepsCountsAndChannels :
    atPowerOn.CountsSafe ∧ atPowerOn.ChannelsSafe ∧ atPowerOn.ComposerSafe := by
  have h : ∀ i, (atPowerOn.entry i) = PeerEntry.empty 0 0 := by decide
  refine ⟨⟨by decide, ?_, by decide, by decide, by decide, by decide, by decide, by decide⟩, ⟨by decide, by decide⟩,
    fun h => absurd rfl h, by decide, by decide, by decide⟩
  intro i; simp [h i, PeerEntry.empty]

/-! ### One step each, from the manual's examples -/

/-- 4.7: B's record moves its speed bias by 51 against the pool of sets A and C (R72 from 0). -/
theorem test_worked_case :
    let a : PeerRecord := { peerRecord with rating := 12000, reactiveRating := 9000, p := 9000, q := 5400 }
    let s := (metered (isoch (withPeer .live))).setEntry 0 { peerEntry .live with record := some a }
    let t := after (.meteringIntervalExpiry (measured 7800 4500 59880 6570)) s
    t.regulator.speedBias = 51 ∧ t.regulator.voltBias = 48 := by decide

/-- R74: the outputs run from −3 V to +3 V, at 0.3 mV for each unit. -/
theorem test_bias_volts : biasVolts 10000 = 3 ∧ biasVolts (-10000) = -3 ∧ biasVolts 1 = 3 / 10000 := by
  norm_num [biasVolts]

/-- R161: a channel without a consumer reports its REQUEST level and its GRANT output. -/
theorem test_claims_unconfigured :
    { sharing with pins := { sharing.pins with request := Vector.replicate 2 true } }.claimBytes 1 = [0, 1, 0] := by
  decide

/-- R153: a claim out of time that does not fit is REFUSED, and its mark is set no more. -/
theorem test_refused_clears_mark :
    let c : Claim := { Claim.reset with state := .claiming, window := some 300000, outOfTime := true }
    let t := after (.claimWindowExpiry 0) (sharing.setClaim 0 c)
    ((t.claim 0).state, (t.claim 0).outOfTime) = (.refused, false) := by decide

/-- 1.4: at the first collision station 2 backs off for 600 + 1,000 µs. -/
theorem test_first_backoff :
    let s := withLane (fun x => { x with tx := .send, jam := some 48, pendingFrame := some (peerFrame 1) })
    (after (.jamEnd .a) s).laneA.backoff = some 1648 := by decide

/-- 8.8: the hand-off expires, the peer's key is skipped, and the own group behind it is shed. -/
theorem test_handoff_skips :
    let s := stepping.setChannel 3 { Channel.reset with state := some .connected }
    let t := after .handoffTimerExpiry s
    t.ladder.skip = [{ station := 4, index := 0 }] ∧ (t.channel 3).state = some .shedPending := by decide

/-- R36: CLEAR_PHANTOM of station 5 empties its entry. -/
theorem test_clear_phantom :
    ((after (.clearPhantom 5) ((port .idle).setEntry 4 (peerEntry .phantom))).entry 4).state = .empty := by decide

/-- R170: RESTART of an online set is answered REJECT, SET_ONLINE. -/
theorem test_restart_online :
    (after .restart (port .idle)).service.response = [0x9A, 0, 7, 13, 1, 5, 0x4C] := by decide

end Sys2Proof.Tests
end

section
/-! The share link's commands (Section 1): what the lane interfaces' operations do, each said once, and the statements
about receptions, sending, stuck lanes and lane conditions. -/

namespace Sys2Proof.Machine

/-! ### The configuration and the mode under the plain updates -/

@[simp] theorem State.conf_setLane (s : State) (l : LaneId) (x : LaneIf) : (s.setLane l x).conf = s.conf := by
  simp [State.conf]

@[simp] theorem State.own_setLane (s : State) (l : LaneId) (x : LaneIf) : (s.setLane l x).own = s.own := by
  simp [State.own]

@[simp] theorem State.mode_setLane (s : State) (l : LaneId) (x : LaneIf) : (s.setLane l x).mode = s.mode := by
  simp [State.mode]

@[simp] theorem State.conf_advanceTo (s : State) (t : Nat) : (s.advanceTo t).conf = s.conf := rfl

@[simp] theorem State.own_advanceTo (s : State) (t : Nat) : (s.advanceTo t).own = s.own := rfl

@[simp] theorem State.lane_syncAlarms (s : State) (l : LaneId) : s.syncAlarms.lane l = s.lane l := by cases l <;> rfl

/-- LINK_OK after the conditions have been taken up (R14). -/
theorem State.linkOk_syncAlarms (s : State) :
    s.syncAlarms.linkOk = linkOkOf s.conf.select s.syncAlarms.laneA.health s.syncAlarms.laneB.health := rfl

/-! ### Lane interfaces -/

/-- The end of a reception, as the statements say it (R1, R4). -/
theorem LaneIf.endReception_eq (x : LaneIf) (now : Nat) : x.endReception now =
    if x.ownEnd = true ∧ x.tx = .send then { x with ownEnd := false }
    else { x with receiving := false, ownEnd := false, quietFrom := .since now } := by
  simp [LaneIf.endReception]

/-- Entering DEFER goes on to SEND at once where the lane is idle and not STUCK (R4). -/
theorem LaneIf.enterDefer_eq (x : LaneIf) (now : Nat) : x.enterDefer now =
    if x.isIdle now = true ∧ x.stuck = false then
      { x with tx := .send, byteCounter := 0, sendStart := some now, quietFrom := .notIdle, receiving := true }
    else { x with tx := .defer } := by
  simp [LaneIf.enterDefer, LaneIf.enterSend]

/-- A lane interface that has seen its lane become idle at an instant sees it idle there (R1). -/
theorem LaneIf.isIdle_since {x : LaneIf} {now : Nat} (h : x.quietFrom = .since now) : x.isIdle now = true := by
  simp [LaneIf.isIdle, h]

/-- On a lane that has just become idle, entering DEFER goes on to SEND unless the lane is STUCK (R4). -/
theorem LaneIf.enterDefer_idle {x : LaneIf} {now : Nat} (h : x.quietFrom = .since now) : x.enterDefer now =
    if x.stuck = false then
      { x with tx := .send, byteCounter := 0, sendStart := some now, quietFrom := .notIdle, receiving := true }
    else { x with tx := .defer } := by
  simp [LaneIf.enterDefer_eq, LaneIf.isIdle_since h]

/-- A lane that is or may be idle from an instant on is shown to be idle no earlier (R1, R19). -/
theorem Quiet.earliest_of {k : Quiet} {q : Nat} (h : k = .since q ∨ k = .unseen q) : k.earliest = some q := by
  rcases h with rfl | rfl <;> rfl

/-! ### An idle lane -/

/-- Settles O9: the lane's first instant of idle is known, and each command acts there. -/
theorem idleLaneTakesAReceptionOrAFrame : Obligations.IdleLaneTakesAReceptionOrAFrame := by
  intro s l q awake quiet notStuck
  have earliest := Quiet.earliest_of quiet
  refine ⟨?_, fun deferring => ?_⟩
  · show execReceptionBegins l s = _
    simp [execReceptionBegins, whileAwake_of awake, earliest, notStuck]
  · show execSendStart l s = _
    simp [execSendStart, whileAwake_of awake, deferring, earliest, notStuck, LaneIf.enterSend]

/-! ### Receptions -/

/-- Settles O10, from what the end of a reception makes of the lane interface. -/
theorem brokenAndBadReceptionsAreDiscarded : Obligations.BrokenAndBadReceptionsAreDiscarded := by
  intro s l rx awake receiving notStuck
  dsimp only
  rw [← LaneIf.endReception_eq]
  refine ⟨fun broken => ?_, fun whole bad => ?_⟩
  · show execReceptionEnd l rx s = _
    simp [execReceptionEnd, whileAwake_of awake, receiving, notStuck, broken]
  · show execReceptionEnd l rx s = _
    have counts : ((s.lane l).endReception s.now).checkErrors = (s.lane l).checkErrors
        ∧ ((s.lane l).endReception s.now).errorCount = (s.lane l).errorCount := by
      unfold LaneIf.endReception
      split <;> exact ⟨rfl, rfl⟩
    simp [execReceptionEnd, whileAwake_of awake, receiving, notStuck, whole, bad, LaneIf.countBad, bump, bump8, counts]

/-- The conditions taken up a second time change nothing (R177). -/
theorem State.syncAlarms_syncAlarms (s : State) : s.syncAlarms.syncAlarms = s.syncAlarms := by
  have latches : (fun k => s.syncAlarms.alarms.latched.contains k || s.syncAlarms.active k)
      = fun k => s.alarms.latched.contains k || s.relink.active k := by
    funext k
    have active : s.syncAlarms.active k = s.relink.active k := by cases k <;> rfl
    have mem := s.mem_syncAlarms k
    rw [active] at mem ⊢
    rw [Bool.eq_iff_iff]
    simp only [List.contains_iff_mem, Bool.or_eq_true, mem]
    tauto
  show s.relink.latchThose (fun k => s.syncAlarms.alarms.latched.contains k || s.syncAlarms.active k) = _
  rw [latches]
  rfl

/-- The end of an event has taken up the conditions (R177). -/
theorem State.finish_syncAlarms (s : State) : s.finish.syncAlarms = s.finish := State.syncAlarms_syncAlarms _

/-- The card with a good frame counted at a lane at the end of its reception (R1, R9). -/
def State.countedGood (s : State) (l : LaneId) : State :=
  s.setLane l { (s.lane l).endReception s.now with goodFrames := min 65535 ((s.lane l).goodFrames + 1) }

/-- The end of a reception that brings a good frame (R9). -/
theorem exec_receptionEnd_good {s : State} {l : LaneId} {rx : Reception} {f : Frame} (awake : s.Awake)
    (receiving : (s.lane l).receiving = true) (notStuck : (s.lane l).stuck = false)
    (whole : receptionBroken rx = false) (good : parseFrame (rx.bytes.map (·.value)) = some f) :
    exec (.receptionEnd l rx) s = .next
      (if f.station = s.own then
        (if (s.lane l).tx = .send ∨ (s.lane l).ownEnd = true then s.countedGood l
          else (s.countedGood l).takeDuplicate).syncAlarms
      else (((s.countedGood l).hearPeer l).queueFrame l f).syncAlarms) := by
  have goodFrames : ((s.lane l).endReception s.now).goodFrames = (s.lane l).goodFrames := by
    unfold LaneIf.endReception
    split <;> rfl
  show execReceptionEnd l rx s = _
  simp only [execReceptionEnd, whileAwake_of awake, receiving, notStuck, whole, good, State.takeGoodFrame, bump,
    State.lane_setLane, State.setLane_setLane, goodFrames, State.own_setLane, State.countedGood]
  by_cases own : f.station = s.own <;> by_cases inSend : (s.lane l).tx = .send ∨ (s.lane l).ownEnd = true <;>
    simp [own, inSend]

/-- Where the set state, the groups and the claims stand, nothing is reported at once (R15). -/
theorem State.not_urges {s t : State} (seq : t.seq = s.seq) (groups : t.groups = s.groups)
    (admission : t.admission = s.admission) : ¬ s.Urges t := by
  rw [State.urges_congr seq groups admission]
  simp [State.Urges]

/-- A duplicate-identity event leaves the configuration in use alone (R9, R167). -/
theorem State.conf_takeDuplicate (s : State) : s.takeDuplicate.conf = s.conf := by
  unfold State.takeDuplicate
  split
  · simp [State.enterMute, State.conf]
  · rfl
  · rfl
  · rfl

/-- Settles O11, by the card mode that a duplicate-identity event finds. -/
theorem ownIdentityIsReadBackOrDuplicate : Obligations.OwnIdentityIsReadBackOrDuplicate := by
  intro s l rx f awake receiving notStuck whole good own
  dsimp only
  rw [← LaneIf.endReception_eq]
  change let counted := s.countedGood l; _
  intro counted
  have alarms : counted.alarms = s.alarms := State.setLane_alarms _ _ _
  have mode : counted.mode = s.loader.mode := State.mode_setLane _ _ _
  have conf : counted.conf = s.conf := State.conf_setLane _ _ _
  have run := exec_receptionEnd_good awake receiving notStuck whole good
  rw [if_pos own] at run
  refine ⟨_, run, fun nothingMore => ?_, fun notSend notEnd inRun => ?_, ?_, fun notSend notEnd inListen => ?_⟩
  · have same : (if (s.lane l).tx = .send ∨ (s.lane l).ownEnd = true then counted else counted.takeDuplicate)
        = counted := by
      split
      · rfl
      · next notInSend =>
        have muted : counted.mode = .mute := by rw [mode]; tauto
        simp [State.takeDuplicate, muted]
    rw [same]
    exact ⟨counted.syncAlarms_frame, fun k => by rw [State.mem_syncAlarms, alarms]⟩
  · have reported : counted.takeDuplicate = counted.raise .dupId := by simp [State.takeDuplicate, mode, inRun]
    rw [if_neg (by simp [notSend, notEnd]), reported]
    refine ⟨(counted.raise_frame _).comp (State.syncAlarms_frame _), fun k => ?_⟩
    rw [State.mem_syncAlarms, State.mem_raise, alarms]
    tauto
  · rw [State.linkOk_syncAlarms]
    split
    · rw [← conf]
    · rw [State.conf_takeDuplicate, ← conf]
  · have muted : counted.takeDuplicate = counted.enterMute := by simp [State.takeDuplicate, mode, inListen]
    rw [if_neg (by simp [notSend, notEnd]), muted, State.enterMute, State.finish_syncAlarms]
    have loader : counted.loader = s.loader := State.setLane_loader _ _ _
    rw [loader]
    refine ⟨(State.Requested.refl _).followed_plain ?_ rfl, State.finish_settled _ |>.2.2.2.1 _ ?_⟩
    · exact State.not_urges (State.setLane_seq _ _ _) (State.setLane_groups _ _ _) (State.setLane_admission _ _ _)
    · simp [State.active, State.mode]

/-- A frame that leaves both lanes alone leaves each. -/
theorem State.keepsBut.lane {s t : State} {bs : List Block} (h : s.keepsBut t bs) (l : LaneId)
    (a : Block.laneA ∉ bs := by decide) (b : Block.laneB ∉ bs := by decide) : t.lane l = s.lane l := by
  cases l
  · exact h .laneA a
  · exact h .laneB b

theorem State.hearPeer_frame (s : State) (l : LaneId) : s.keepsBut (s.hearPeer l) [.laneA, .laneB] := by
  unfold State.hearPeer
  dsimp only
  split
  · exact (s.setLane_frame l _).trans (State.setLane_frame _ _ _)
  · exact s.setLane_frame l _

/-- A peer frame restarts its lane's silence timer and ends that lane's silent condition (R13). -/
theorem State.lane_hearPeer (s : State) (l : LaneId) :
    (s.hearPeer l).lane l = { s.lane l with silence := some (s.now + 500000), silent := false } := by
  unfold State.hearPeer
  dsimp only
  split <;> cases l <;> rfl

/-- A peer frame makes the other lane silent where that lane's silence timer is stopped (R13). -/
theorem State.lane_hearPeer_other (s : State) (l : LaneId) : (s.hearPeer l).lane (otherLane l) =
    { s.lane (otherLane l) with
      silent := (s.lane (otherLane l)).silent || (s.lane (otherLane l)).silence.isNone } := by
  unfold State.hearPeer
  simp only [State.lane_setLane_other]
  split
  · next stopped => simp [stopped]
  · next runs => simp [Option.isNone_eq_false_iff.2 (Option.isSome_iff_ne_none.2 runs)]

theorem State.queueFrame_frame (s : State) (l : LaneId) (f : Frame) : s.keepsBut (s.queueFrame l f) [.rx, .alarms] := by
  unfold State.queueFrame
  split <;> exact fun b hb => by cases b <;> first | rfl | exact absurd (by decide) hb

/-- A frame that finds room joins the receive queue (R21). -/
theorem State.rx_queueFrame {s : State} (room : s.rx.frames.length < 8) (l : LaneId) (f : Frame) :
    (s.queueFrame l f).rx = { s.rx with frames := s.rx.frames ++ [(l, f)] } := by
  simp [State.queueFrame, room]

/-- A full queue discards a frame, counts it and reports RX_OVERRUN (R21). -/
theorem State.queueFrame_full {s : State} (full : 8 ≤ s.rx.frames.length) (l : LaneId) (f : Frame) :
    s.queueFrame l f = State.raise { s with rx := { s.rx with overruns := bump s.rx.overruns } } .rxOverrun := by
  simp [State.queueFrame, full]

theorem State.queueFrame_latches (s : State) (l : LaneId) (f : Frame) : s.keepsLatches (s.queueFrame l f) := by
  by_cases full : 8 ≤ s.rx.frames.length
  · rw [State.queueFrame_full full]
    exact State.raise_latches _ _
  · exact .of_eq (by simp [State.queueFrame, Nat.lt_of_not_le full])

/-- Settles O12: the frame is counted, then heard at both lanes, then queued. -/
theorem peerFrameJoinsTheQueue : Obligations.PeerFrameJoinsTheQueue := by
  intro s l rx f awake receiving notStuck whole good peer
  dsimp only
  rw [← LaneIf.endReception_eq]
  have run := exec_receptionEnd_good awake receiving notStuck whole good
  rw [if_neg peer] at run
  let heard := (s.countedGood l).hearPeer l
  let queued := heard.queueFrame l f
  have counts : s.keepsBut (s.countedGood l) [.laneA, .laneB] := s.setLane_frame l _
  have hears : s.keepsBut heard [.laneA, .laneB] := counts.trans (State.hearPeer_frame _ l)
  have queues : heard.keepsBut queued [.rx, .alarms] := heard.queueFrame_frame l f
  have frame : s.keepsBut queued.syncAlarms [.laneA, .laneB, .linkOk, .alarms, .rx] :=
    (hears.comp queues (cs := [.laneA, .laneB, .rx, .alarms])).comp queued.syncAlarms_frame
  have rx : heard.rx = s.rx := hears .rx (by decide)
  have loader : queued.loader = s.loader := frame .loader (by decide)
  refine ⟨queued.syncAlarms, run, ?_, ?_, fun room => ?_, fun full => ⟨?_, ?_⟩, ?_, ?_, frame⟩
  · rw [State.lane_syncAlarms, queues.lane, State.lane_hearPeer]
    simp [State.countedGood]
  · rw [State.lane_syncAlarms, queues.lane, State.lane_hearPeer_other]
    simp [State.countedGood]
  · rw [State.syncAlarms_rx, State.rx_queueFrame (by rwa [rx]), rx]
  · rw [State.syncAlarms_rx]
    show (heard.queueFrame l f).rx = _
    rw [State.queueFrame_full (by rwa [rx]), State.raise_rx, rx, bump]
  · refine queued.syncAlarms_latches _ ?_
    show _ ∈ (heard.queueFrame l f).alarms.latched
    rw [State.queueFrame_full (by rwa [rx])]
    exact (State.mem_raise _ _ _).2 (.inr rfl)
  · rw [State.linkOk_syncAlarms, State.conf, State.conf, loader]
  · have stand : s.keepsLatches heard := .of_eq (hears .alarms (by decide))
    exact (stand.trans (heard.queueFrame_latches l f)).trans queued.syncAlarms_latches

end Sys2Proof.Machine
end

section
/-! The share link's commands (Section 1), continued: frames completed and frames aborted, stuck lanes with the driver test,
and the lane conditions. -/

namespace Sys2Proof.Machine

/-! ### The length of a frame -/

@[simp] theorem GroupItem.length_bytes (g : GroupItem) : g.bytes.length = 4 := rfl

@[simp] theorem ClaimItem.length_bytes (c : ClaimItem) : c.bytes.length = 5 := rfl

/-- The check covers all of a frame but its sync bytes and the check itself (R2). -/
theorem Frame.length_covered (f : Frame) :
    f.covered.length = 19 + 4 * f.content.groups.length + 5 * f.content.claims.length := by
  simp [Frame.covered, bytes16, signed16, List.length_flatMap]
  omega

/-- A frame of g group and c claim entries is 23 + 4g + 5c bytes long (R2). -/
theorem Frame.length_bytes (f : Frame) : f.bytes.length = f.length := by
  simp [Frame.bytes, Frame.length_covered, Frame.length, frameLength, bytes16]
  omega

/-! ### Sending -/

/-- A frame completes without a next frame behind it (R4). -/
theorem LaneIf.complete_of_none {x : LaneIf} (noNext : x.nextFrame = none) (now : Nat) :
    x.complete now = { x with
      tx := .idle, pendingFrame := none, attempts := 0, sendStart := none, quietFrom := .since now
      ownEnd := x.receiving } := by
  simp [LaneIf.complete, noNext]

/-- A frame completes with a next frame behind it, which is sent at once unless the lane is STUCK (R4). -/
theorem LaneIf.complete_of_some {x : LaneIf} {g : Frame} (next : x.nextFrame = some g) (now : Nat) :
    (x.complete now).pendingFrame = some g ∧ (x.complete now).nextFrame = none ∧ (x.complete now).attempts = 0
      ∧ (x.complete now).tx = (if x.stuck then .defer else .send)
      ∧ (x.stuck = false → (x.complete now).byteCounter = 0) := by
  simp only [LaneIf.complete, next]
  rw [LaneIf.enterDefer_idle rfl]
  cases h : x.stuck <;> simp

/-- Settles O13, from the completion and the entry to DEFER at one lane interface. -/
theorem frameCompletesAndBackoffEnds : Obligations.FrameCompletesAndBackoffEnds := by
  intro s l awake
  refine ⟨fun t0 f inSend started pending => ?_, fun d running => ?_⟩
  · have due : (s.lane l).completionTime = some (t0 + 40 * f.bytes.length + 80) := by
      simp [LaneIf.completionTime, inSend, started, pending, Frame.length_bytes, byteTime, idleTime, Nat.mul_comm]
    intro b
    have run : exec (.frameComplete l) s = .next (b.setLane l ((b.lane l).complete b.now)) := by
      show execFrameComplete l s = _
      simp only [execFrameComplete, whileAwake_of awake, due]
      rfl
    have nextFrame : (b.lane l).nextFrame = (s.lane l).nextFrame := by simp [b]
    have stuck : (b.lane l).stuck = (s.lane l).stuck := by simp [b]
    have receiving : (b.lane l).receiving = (s.lane l).receiving := by simp [b]
    refine ⟨_, run, b.setLane_frame l _, State.lane_setLane_other _ _ _, fun noNext => ?_, fun g next => ?_⟩
    · rw [State.lane_setLane, State.setLane_now, ← receiving]
      exact LaneIf.complete_of_none (nextFrame.trans noNext) b.now
    · rw [State.lane_setLane, ← stuck]
      exact LaneIf.complete_of_some (nextFrame.trans next) b.now
  · show execBackoffExpiry l s = _
    simp only [execBackoffExpiry, onExpiry_of awake running, LaneIf.enterDefer_eq]
    simp [LaneIf.isIdle]

/-- The jam of an 8th collision ends without a next frame behind the one that is dropped (R5). -/
theorem LaneIf.endJam_drop {x : LaneIf} (last : 7 ≤ x.attempts) (noNext : x.nextFrame = none) (own : Station)
    (now : Nat) : x.endJam own now = { x with
      tx := .idle, jam := none, pendingFrame := none, attempts := 0
      collisionDrops := min 65535 (x.collisionDrops + 1) } := by
  simp [LaneIf.endJam, last, noNext, bump]

/-- The jam of an 8th collision ends with a next frame behind the one that is dropped (R4, R5). -/
theorem LaneIf.endJam_dropNext {x : LaneIf} {g : Frame} (last : 7 ≤ x.attempts) (next : x.nextFrame = some g)
    (own : Station) (now : Nat) :
    (x.endJam own now).jam = none ∧ (x.endJam own now).pendingFrame = some g ∧ (x.endJam own now).nextFrame = none
      ∧ (x.endJam own now).attempts = 0 ∧ (x.endJam own now).collisionDrops = min 65535 (x.collisionDrops + 1)
      ∧ (x.endJam own now).tx = (if x.isIdle now = true ∧ x.stuck = false then .send else .defer) := by
  let dropped : LaneIf := { x with
    jam := none, collisionDrops := bump x.collisionDrops, pendingFrame := some g, nextFrame := none, attempts := 0 }
  have ends : x.endJam own now = dropped.enterDefer now := by simp [LaneIf.endJam, last, next, dropped]
  have idle : dropped.isIdle now = x.isIdle now := rfl
  have stuck : dropped.stuck = x.stuck := rfl
  rw [ends, LaneIf.enterDefer_eq, idle, stuck]
  split <;> exact ⟨rfl, rfl, rfl, rfl, rfl, rfl⟩

/-- The jam of an earlier collision ends in BACKOFF, where a next frame replaces the aborted one (R5, R6). -/
theorem LaneIf.endJam_backoff {x : LaneIf} (more : x.attempts < 7) (own : Station) (now : Nat) :
    x.endJam own now = { x with
      tx := .backoff, jam := none, backoff := some (now + 300 * own.num + 1000 * (x.attempts + 1))
      attempts := (if x.nextFrame = none then x.attempts + 1 else 0)
      pendingFrame := (if x.nextFrame = none then x.pendingFrame else x.nextFrame), nextFrame := none
      replaced := (if x.nextFrame = none then x.replaced else min 65535 (x.replaced + 1)) } := by
  have few : ¬ 8 ≤ x.attempts + 1 := by omega
  cases h : x.nextFrame <;> simp [LaneIf.endJam, few, h, backoffTime, bump, Nat.add_assoc]

/-- Settles O14, by the attempt count and the next frame at the end of the jam. -/
theorem collisionJamsAndBacksOff : Obligations.CollisionJamsAndBacksOff := by
  intro s l awake
  refine ⟨fun inSend noJam => ?_, fun jammed => ?_, fun d jam => ?_⟩
  · show execCollision l s = _
    simp [execCollision, whileAwake_of awake, inSend, noJam, LaneIf.collide, jamTime, bump]
  · show execCollision l s = _
    simp [execCollision, whileAwake_of awake, jammed]
  · intro b
    have run : exec (.jamEnd l) s = .next (b.setLane l ((b.lane l).endJam b.own b.now)) :=
      onExpiry_of awake jam (fun s => s.setLane l ((s.lane l).endJam s.own s.now))
    have attempts : (b.lane l).attempts = (s.lane l).attempts := by simp [b]
    have nextFrame : (b.lane l).nextFrame = (s.lane l).nextFrame := by simp [b]
    have pendingFrame : (b.lane l).pendingFrame = (s.lane l).pendingFrame := by simp [b]
    have drops : (b.lane l).collisionDrops = (s.lane l).collisionDrops := by simp [b]
    have replaced : (b.lane l).replaced = (s.lane l).replaced := by simp [b]
    have stuck : (b.lane l).stuck = (s.lane l).stuck := by simp [b]
    have idle : (b.lane l).isIdle b.now = (s.lane l).isIdle b.now := by simp [b]
    refine ⟨_, run, b.setLane_frame l _, State.lane_setLane_other _ _ _, ?_⟩
    rw [State.lane_setLane, State.setLane_now, ← attempts, ← nextFrame, ← pendingFrame, ← drops, ← replaced, ← stuck, ← idle]
    exact ⟨fun last noNext => LaneIf.endJam_drop last noNext _ _,
      fun g last next => LaneIf.endJam_dropNext last next _ _, fun more => LaneIf.endJam_backoff more _ _⟩

/-! ### Stuck lanes and the driver test -/

/-- What a changed lane interface makes of the card once the conditions are taken up (R14, R177): the lane's own alarm kind
latches where its health is not OK, and its driver's where the transmitter is DISABLED (R7, R11). -/
theorem State.setLane_takenUp (s : State) (l : LaneId) (x : LaneIf) :
    let t := (s.setLane l x).syncAlarms
    t.lane l = x ∧ t.lane (otherLane l) = s.lane (otherLane l)
      ∧ t.linkOk = linkOkOf s.conf.select t.laneA.health t.laneB.health
      ∧ s.keepsLatches t ∧ s.keepsBut t [.laneA, .laneB, .linkOk, .alarms]
      ∧ (x.health ≠ .ok → (if l = .a then AlarmKind.laneA else .laneB) ∈ t.alarms.latched)
      ∧ (x.tx = .disabled → (if l = .a then AlarmKind.laneADriver else .laneBDriver) ∈ t.alarms.latched) := by
  intro t
  have stand : s.keepsLatches (s.setLane l x) := .of_eq (State.setLane_alarms _ _ _)
  have active (k : AlarmKind) (h : t.active k = true) : k ∈ t.alarms.latched := (State.mem_syncAlarms _ k).2 (.inr h)
  refine ⟨by simp [t], by simp [t], ?_, stand.trans (State.syncAlarms_latches _),
    (s.setLane_frame l x).comp (State.syncAlarms_frame _), fun ill => active _ ?_, fun off => active _ ?_⟩
  · rw [State.linkOk_syncAlarms, State.conf_setLane]
  · cases l <;> simpa [t, State.active, State.setLane] using ill
  · cases l <;> simpa [t, State.active, State.setLane] using off

/-- The start of a driver test, with a next frame in the pending one's place (R7). -/
theorem LaneIf.startTest_eq (x : LaneIf) (now : Nat) : x.startTest now = { x with
    tx := .isolated, byteCounter := 0, sendStart := none, jam := none, backoff := none, test := some (now + 10000)
    attempts := (if x.nextFrame = none then x.attempts else 0)
    pendingFrame := (if x.nextFrame = none then x.pendingFrame else x.nextFrame), nextFrame := none
    replaced := (if x.nextFrame = none then x.replaced else min 65535 (x.replaced + 1)) } := by
  cases h : x.nextFrame <;> simp [LaneIf.startTest, h, bump, driverTestTime, ms]

/-- Settles O15, through `State.setLane_takenUp` on entering STUCK and at its end. -/
theorem stuckLaneIsTestedAndEnds : Obligations.StuckLaneIsTestedAndEnds := by
  intro s l awake
  refine ⟨fun inSend free => ?_, fun stuck => ?_⟩
  · intro stuck
    let entered : LaneIf :=
      if inSend && (s.lane l).tx != .disabled && (s.lane l).tx != .isolated then stuck.startTest s.now else stuck
    have run : exec (.stuckEntry l inSend) s = .next (s.setLane l entered).syncAlarms := by
      show execStuckEntry l inSend s = _
      simp [execStuckEntry, whileAwake_of awake, free, entered, stuck]
    have health : entered.health = .stuck := by
      simp only [entered]
      split <;> simp [LaneIf.startTest_eq, LaneIf.health, stuck]
    obtain ⟨lane, other, linkOk, latches, frame, alarm, -⟩ := s.setLane_takenUp l entered
    refine ⟨_, run, by rw [lane, health], ?_, ?_, alarm (by simp [health]), other, linkOk, latches, frame⟩
    · intro untested
      rw [lane]
      exact if_neg (by rcases untested with h | h | h <;> simp [h])
    · intro began enabled connected
      rw [lane, ← LaneIf.startTest_eq stuck]
      exact if_pos (by simp [began, enabled, connected])
  · intro free
    let left : LaneIf := if (s.lane l).tx = .defer then free.enterDefer s.now else free
    have run : exec (.stuckEnd l) s = .next (s.setLane l left).syncAlarms := by
      show execStuckEnd l s = _
      simp [execStuckEnd, whileAwake_of awake, stuck, left, free]
    obtain ⟨lane, other, linkOk, latches, frame, -⟩ := s.setLane_takenUp l left
    refine ⟨_, run, ?_, other, linkOk, latches, frame⟩
    rw [lane]
    simp only [left, LaneIf.enterDefer_idle (x := free) rfl]
    rfl

/-- Settles O16, by whether the driver test still runs. -/
theorem driverTestEnds : Obligations.DriverTestEnds := by
  intro s l awake isolated
  refine ⟨fun d running => ⟨?_, ?_⟩, fun expired => ?_⟩
  · let disabled : LaneIf :=
      { s.lane l with tx := .disabled, pendingFrame := none, test := none, quietFrom := .since (s.now + 80) }
    have run : exec (.driverTestLaneIdle l) s = .next (s.setLane l disabled).syncAlarms := by
      show execDriverTestLaneIdle l s = _
      simp [execDriverTestLaneIdle, whileAwake_of awake, isolated, running, idleTime, disabled]
    obtain ⟨lane, other, -, latches, frame, -, driver⟩ := s.setLane_takenUp l disabled
    exact ⟨_, run, lane, driver rfl, other, latches, frame⟩
  · show execDriverTestExpiry l s = _
    rw [execDriverTestExpiry, onExpiry_of awake running]
  · show execIsolatedLaneIdle l s = _
    simp only [execIsolatedLaneIdle, whileAwake_of awake, isolated, expired, and_self, if_true]
    cases pending : (s.lane l).pendingFrame with
    | none => simp
    | some f =>
      rw [LaneIf.enterDefer_idle rfl]
      cases stuck : (s.lane l).stuck <;> simp

/-! ### Lane conditions -/

/-- Settles O17, through `State.setLane_takenUp` at either expiry. -/
theorem laneTimersJudgeTheLane : Obligations.LaneTimersJudgeTheLane := by
  intro s l d awake b
  have stand : s.keepsLatches b := .of_eq rfl
  refine ⟨fun running => ?_, fun running => ?_⟩
  · let judged : LaneIf := { b.lane l with
      degraded := decide (s.conf.threshold ≤ (s.lane l).errorCount), errorCount := 0
      errorWindow := some (b.now + 1000000) }
    have run : exec (.errorWindowExpiry l) s = .next (b.setLane l judged).syncAlarms := by
      show execErrorWindowExpiry l s = _
      simp [execErrorWindowExpiry, onExpiry_of awake running, judged, b, State.after, errorWindowTime, ms]
    obtain ⟨lane, other, linkOk, latches, frame, -⟩ := b.setLane_takenUp l judged
    exact ⟨_, run, by rw [lane]; simp [judged], other, linkOk, stand.trans latches, frame⟩
  · let judged : LaneIf := { b.lane l with
      silence := none, silent := (s.lane l).silent || (s.lane (otherLane l)).silence.isSome }
    have run : exec (.silenceTimerExpiry l) s = .next (b.setLane l judged).syncAlarms := by
      show execSilenceTimerExpiry l s = _
      simp [execSilenceTimerExpiry, onExpiry_of awake running, judged, b]
    obtain ⟨lane, other, linkOk, latches, frame, -⟩ := b.setLane_takenUp l judged
    exact ⟨_, run, lane, other, linkOk, stand.trans latches, frame⟩

end Sys2Proof.Machine
end

section
/-! The frame composer's commands (1.6): what either of its timers makes of the card, said once, and the statements about
compositions and the judgement of METER_FAIL. -/

namespace Sys2Proof.Machine

/-! ### What waits at the composer -/

/-- With the spacing timer stopped, what the composer was asked for is composed at once (R16). -/
theorem State.DealtWith.composed {s t : State} {k : FrameKind} (h : s.DealtWith t (some k))
    (stopped : s.composer.spacing = none) : s.Composed t k ∧ t.composer.waiting = none := by
  unfold State.DealtWith at h
  rwa [stopped] at h

/-- With the spacing timer running, or nothing asked for, no frame is composed (R16). -/
theorem State.DealtWith.held {s t : State} {w : Option FrameKind} (h : s.DealtWith t w)
    (waits : s.composer.spacing ≠ none ∨ w = none) :
    t.laneA = s.laneA ∧ t.laneB = s.laneB ∧ t.composer = { s.composer with waiting := w } := by
  unfold State.DealtWith at h
  split at h
  · next stopped => simp [stopped] at waits
  · exact h

/-- The end of an event deals with what waits (R16). -/
theorem State.finish_dealtWith (s : State) : s.DealtWith s.finish s.composer.waiting :=
  (State.Requested.refl s).dealtWith

/-! ### The composer's timers -/

/-- The kind of what waits once a periodic request has joined it (R16). -/
def Composer.askedPeriodic (c : Composer) : FrameKind := if c.waiting = some .urgent then .urgent else .periodic

theorem mergeRequest_periodic (c : Composer) : mergeRequest c.waiting .periodic = some c.askedPeriodic := by
  unfold mergeRequest Composer.askedPeriodic
  split
  · next urgent => rw [if_pos urgent]
  · next other => rw [if_neg other]

/-- The card at a frame timer's expiry in RUN, before the end of the event (R15). -/
def State.atFrameTimer (s : State) (d : Nat) : State :=
  { s.advanceTo d with
    composer := { s.composer with
      frameTimer := some (max s.now d + 100000), waiting := some s.composer.askedPeriodic } }

/-- A frame timer's expiry in RUN is a periodic request (R15). -/
theorem exec_frameTimerExpiry {s : State} {d : Nat} (awake : s.Awake) (run : s.loader.mode = .run)
    (running : s.composer.frameTimer = some d) : exec .frameTimerExpiry s = .next (s.atFrameTimer d).finish := by
  show execFrameTimerExpiry s = _
  rw [execFrameTimerExpiry, onExpiry_of awake running]
  simp [State.request, State.mode, run, mergeRequest_periodic, State.atFrameTimer, State.after, framePeriod, ms]

/-- The card at the spacing timer's expiry, before the end of the event (R16). -/
def State.atSpacingTimer (s : State) (d : Nat) : State :=
  { s.advanceTo d with composer := { s.composer with spacing := none } }

/-- At its expiry the spacing timer stops before the end of the event deals with what waits (R16). -/
theorem exec_spacingTimerExpiry {s : State} {d : Nat} (awake : s.Awake) (running : s.composer.spacing = some d) :
    exec .spacingTimerExpiry s = .next (s.atSpacingTimer d).finish := by
  show execSpacingTimerExpiry s = _
  rw [execSpacingTimerExpiry, onExpiry_of awake running]
  rfl

/-- Settles O20: both timers leave it to the end of the event, which deals with what waits. -/
theorem composerTimersMakeTheFrames : Obligations.ComposerTimersMakeTheFrames := by
  intro s d awake
  refine ⟨fun run running => ?_, fun running => ?_⟩
  · have dealt := (s.atFrameTimer d).finish_dealtWith
    exact ⟨_, exec_frameTimerExpiry awake run running, State.finish_settles _, fun stopped => dealt.composed stopped,
      fun spaced => dealt.held (.inl spaced)⟩
  · have dealt := (s.atSpacingTimer d).finish_dealtWith
    refine ⟨_, exec_spacingTimerExpiry awake running, State.finish_settles _, fun k waits => ?_, fun nothing => ?_⟩
    · rw [show (s.atSpacingTimer d).composer.waiting = some k from waits] at dealt
      exact dealt.composed rfl
    · exact dealt.held (.inr nothing)

/-! ### The judgement of METER_FAIL -/

/-- What a fresh composition sends (R18). -/
theorem State.sentValues_fresh {s : State} {r : MeterRecord} (fresh : s.composer.arrival = true)
    (latest : s.metering.latest = some r) : s.sentValues = (r.p, r.q, r.frequency) := by
  simp [State.sentValues, fresh, latest]

/-- What a stale composition repeats (R18). -/
theorem State.sentValues_stale {s : State} (stale : s.composer.arrival = false) :
    s.sentValues = (s.composer.lastP, s.composer.lastQ, s.composer.lastFrequency) := by
  simp [State.sentValues, stale]

/-- An active METER_FAIL holds a settled card in DROOP, with its latch set (R49, R177). -/
theorem State.Settled.droop_of_meterFail {s : State} (h : s.Settled) (fails : s.composer.meterFail = true) :
    s.island.mode = .droop ∧ .meterFail ∈ s.alarms.latched := by
  obtain ⟨resolved, -, -, latched, -⟩ := h
  refine ⟨?_, latched _ fails⟩
  rw [← resolved]
  show s.sharingNow.1 = .droop
  simp [State.sharingNow, nextSharing, State.droopCause, fails]

/-- How a composition from `s` has judged the metering in a settled card `t` (R18). -/
theorem State.Composed.judged {s t : State} {k : FrameKind} (h : s.Composed t k) (settled : t.Settled) :
    (∀ r, s.composer.arrival = true → s.metering.latest = some r →
        t.composer.lastP = r.p ∧ t.composer.lastQ = r.q ∧ t.composer.lastFrequency = r.frequency
        ∧ t.composer.staleCount = 0 ∧ t.composer.freshCount = s.composer.freshCount
        ∧ (t.composer.meterFail = true ↔ s.composer.meterFail = true ∧ s.composer.freshCount ≠ 2))
    ∧ (s.composer.arrival = false →
        t.composer.lastP = s.composer.lastP ∧ t.composer.lastQ = s.composer.lastQ
        ∧ t.composer.lastFrequency = s.composer.lastFrequency
        ∧ t.composer.staleCount = min 255 (s.composer.staleCount + 1) ∧ t.composer.freshCount = 0
        ∧ (t.composer.meterFail = true ↔ s.composer.meterFail = true ∨ 3 ≤ t.composer.staleCount))
    ∧ t.composer.arrival = false
    ∧ (t.composer.meterFail = true → t.island.mode = .droop ∧ .meterFail ∈ t.alarms.latched) := by
  obtain ⟨-, composer⟩ := h
  have sent : (s.resolve.composedFrame k).content.p = s.sentValues.1
      ∧ (s.resolve.composedFrame k).content.q = s.sentValues.2.1
      ∧ (s.resolve.composedFrame k).content.frequency = s.sentValues.2.2 := ⟨rfl, rfl, rfl⟩
  rw [sent.1, sent.2.1, sent.2.2] at composer
  refine ⟨fun r fresh latest => ?_, fun stale => ?_, by rw [composer], settled.droop_of_meterFail⟩
  · rw [composer, State.sentValues_fresh fresh latest]
    simp [fresh]
  · rw [composer, State.sentValues_stale stale]
    simp [stale]

/-- Settles O21, from the composition that either timer makes of a settled card. -/
theorem compositionJudgesTheMetering : Obligations.CompositionJudgesTheMetering := by
  intro s d awake
  refine ⟨fun k running waits => ?_, fun run running stopped => ?_⟩
  · have dealt := (s.atSpacingTimer d).finish_dealtWith
    rw [show (s.atSpacingTimer d).composer.waiting = some k from waits] at dealt
    exact ⟨_, exec_spacingTimerExpiry awake running, (dealt.composed rfl).1.judged (State.finish_settled _)⟩
  · have dealt := (s.atFrameTimer d).finish_dealtWith
    exact ⟨_, exec_frameTimerExpiry awake run running, (dealt.composed stopped).1.judged (State.finish_settled _)⟩

end Sys2Proof.Machine
end

section
/-! The metering interval (R53 to R57): what a delivered record moves, followed through the notice of the regulator and the
stage counters to the end of the event. -/

namespace Sys2Proof.Machine

/-! ### The set and the groups moved within one event -/

/-- As `State.MovedBlocks`, where the set sequencer and the regulator may have moved too. -/
def State.Moved (s t : State) : Prop :=
  State.Requested { s with seq := t.seq, regulator := t.regulator, groups := t.groups, ladder := t.ladder } t

theorem State.Moved.refl (s : State) : s.Moved s := State.Requested.refl s

theorem State.Moved.trans {s t u : State} (h : s.Moved t) (k : t.Moved u) : s.Moved u := by
  obtain ⟨h1, h2, h3, -, h5, h6, h7⟩ := h
  obtain ⟨k1, k2, k3, -, k5, k6, k7⟩ := k
  refine ⟨fun b hb => ?_, fun x hx => k2 x (h2 x hx), by rw [k3, h3], rfl, k5.trans h5, k6.trans h6, k7.trans h7⟩
  have first := h1 b hb
  have second := k1 b hb
  cases b <;> first | rfl | (exact absurd (by decide) hb) | exact Eq.trans second first

theorem State.Moved.of_blocks {s t : State} (h : s.MovedBlocks t) : s.Moved t := by
  obtain ⟨h1, h2, h3, -, h5, h6, h7⟩ := h
  refine ⟨fun b hb => ?_, h2, h3, rfl, h5, h6, h7⟩
  have same := h1 b hb
  cases b <;> first | rfl | (exact absurd (by decide) hb) | exact same

theorem State.Moved.of_requested {s t : State} (h : s.Requested t) : s.Moved t := .of_blocks (.of_requested h)

theorem State.Moved.loader {s t : State} (h : s.Moved t) : t.loader = s.loader := h.1 .loader (by decide)

/-- A change of the set sequencer's and the regulator's own fields. -/
theorem State.Moved.set (s : State) (q : Sequencer) (r : Regulator) : s.Moved { s with seq := q, regulator := r } :=
  State.Requested.refl _

theorem State.setSetState_moved (s : State) (st : SetState) : s.Moved (s.setSetState st) :=
  (State.Moved.set s _ _).trans (.of_requested (s.setSetState_requested st))

/-- What waits once a change has been reported at once: in RUN it is urgent (R15). -/
def State.urgentWaiting (s : State) : Option FrameKind :=
  if s.loader.mode = .run then some .urgent else s.composer.waiting

/-- As `State.Moved`, where the groups stand and the set may have moved: a changed set state has made an urgent request,
and without one there is no request (R15, R76). The own P and Q stand. -/
def State.MovedSet (s t : State) : Prop :=
  s.Moved t ∧ t.groups = s.groups
    ∧ (t.island.ownP = s.island.ownP ∧ t.island.ownQ = s.island.ownQ)
    ∧ (t.seq.state = s.seq.state ∧ t.composer.waiting = s.composer.waiting
      ∨ t.seq.state ≠ s.seq.state ∧ t.composer.waiting = s.urgentWaiting)

theorem State.MovedSet.refl (s : State) : s.MovedSet s := ⟨.refl s, rfl, ⟨rfl, rfl⟩, .inl ⟨rfl, rfl⟩⟩

@[simp] theorem State.setSetState_ownP (s : State) (st : SetState) : (s.setSetState st).island.ownP = s.island.ownP := by
  unfold State.setSetState State.request
  split <;> rfl

@[simp] theorem State.setSetState_ownQ (s : State) (st : SetState) : (s.setSetState st).island.ownQ = s.island.ownQ := by
  unfold State.setSetState State.request
  split <;> rfl

/-- The set enters another state, after a change of the sequencer's own timers and marks. -/
theorem State.MovedSet.enter (s : State) (q : Sequencer) {st : SetState} (h : st ≠ s.seq.state) :
    s.MovedSet (State.setSetState { s with seq := q } st) :=
  ⟨(State.Moved.set s q _).trans (State.setSetState_moved _ st), State.setSetState_groups _ _,
    ⟨State.setSetState_ownP _ _, State.setSetState_ownQ _ _⟩,
    .inr ⟨by simpa using h, State.setSetState_waiting _ _⟩⟩

/-- A second change of the set within one event, into a state that is not the first one. -/
theorem State.MovedSet.again {s t u : State} (h : s.MovedSet t) (k : t.MovedSet u) (first : t.seq.state ≠ s.seq.state)
    (last : u.seq.state ≠ s.seq.state) : s.MovedSet u := by
  obtain ⟨hm, hg, ⟨hp, hq⟩, hw⟩ := h
  obtain ⟨km, kg, ⟨kp, kq⟩, kw⟩ := k
  refine ⟨hm.trans km, kg.trans hg, ⟨kp.trans hp, kq.trans hq⟩, .inr ⟨last, ?_⟩⟩
  have waits : t.composer.waiting = s.urgentWaiting := (hw.resolve_left fun e => first e.1).2
  have mode : t.loader.mode = s.loader.mode := congrArg _ hm.loader
  rcases kw with ⟨-, kw⟩ | ⟨-, kw⟩
  · rw [kw, waits]
  · rw [kw, State.urgentWaiting, waits, mode, State.urgentWaiting]
    split <;> rfl

/-- A pending unload judged in SHARING leads to UNLOADING or is refused (R88, R89). -/
theorem State.judgeUnload_moved {s : State} (h : s.seq.state = .sharing) : s.MovedSet s.judgeUnload
    ∧ s.judgeUnload.seq.state ≠ .loading := by
  unfold State.judgeUnload
  split
  · exact ⟨State.MovedSet.enter s _ (by simp [h]), by simp [State.enterUnloading]⟩
  · exact ⟨⟨.of_requested (s.raise_requested _), rfl, ⟨rfl, rfl⟩, .inl ⟨rfl, rfl⟩⟩, by simp [h]⟩

/-- The loading-complete notice (R86, R89). -/
theorem State.takeLoadingComplete_moved (s : State) : s.MovedSet s.takeLoadingComplete := by
  unfold State.takeLoadingComplete
  split
  · next loading =>
    have shares : s.MovedSet (s.setSetState .sharing) := State.MovedSet.enter s s.seq (by simp [loading])
    dsimp only
    split
    · have cleared : (s.setSetState .sharing).MovedSet { s.setSetState .sharing with
          seq := { (s.setSetState .sharing).seq with pendingUnload := false } } :=
        ⟨State.Moved.set _ _ _, rfl, ⟨rfl, rfl⟩, .inl ⟨rfl, rfl⟩⟩
      have shared := shares.again cleared (by simp [loading]) (by simp [loading])
      obtain ⟨judged, ne⟩ := State.judgeUnload_moved (s := { s.setSetState .sharing with
          seq := { (s.setSetState .sharing).seq with pendingUnload := false } }) (by simp)
      exact shared.again judged (by simp [loading]) (by rw [loading]; exact ne)
    · exact shares
  · exact .refl s

/-- The unloaded notice (R93). -/
theorem State.takeUnloaded_moved (s : State) : s.MovedSet s.takeUnloaded := by
  unfold State.takeUnloaded
  split
  · next unloading => exact State.MovedSet.enter s _ (by simp [unloading])
  · exact .refl s

theorem State.takeNotice_moved (s : State) (n : Option Notice) : s.MovedSet (s.takeNotice n) := by
  match n with
  | none => exact .refl s
  | some .loadingComplete => exact s.takeLoadingComplete_moved
  | some .unloaded => exact s.takeUnloaded_moved

/-- The stage counters move no more than the ladder and, by a slow step, the groups (R132, R133). -/
theorem State.stepStages_moves (s : State) (isl : Island) (r : MeterRecord) : s.MovedGroups (s.stepStages isl r) := by
  unfold State.stepStages
  split
  · dsimp only
    split
    · exact (State.MovedGroups.ladder s _).trans (State.requestStep_moves _)
    · exact .ladder s _
  · exact .ladder s _

theorem State.stepStages_frame (s : State) (isl : Island) (r : MeterRecord) :
    s.keepsBut (s.stepStages isl r) [.groups, .composer, .ladder, .alarms] := by
  unfold State.stepStages
  split
  · dsimp only
    split
    · exact (Ladder.set_frame s _).comp (State.requestStep_frame _)
    · exact (Ladder.set_frame s _).mono (by decide)
  · exact (Ladder.set_frame s _).mono (by decide)

/-- The end of an event that found the card as `s`, has taken it from `c` to `v` without a change that is reported at once,
and has then moved the set, to `t`, and the groups by the ladder, to `u` (R15, R16). -/
theorem State.MovedSet.followed {s c v t u : State} (start : c.Moved v)
    (waits : v.composer.waiting = c.composer.waiting) (seq : v.seq.state = s.seq.state) (groups : v.groups = s.groups)
    (admission : c.admission = s.admission) (set : v.MovedSet t) (moves : t.MovedGroups u) :
    s.Followed { c with
      seq := u.finish.seq, regulator := u.finish.regulator, groups := u.finish.groups, ladder := u.finish.ladder }
      u.finish := by
  obtain ⟨setMoved, setGroups, -, setWaits⟩ := set
  obtain ⟨blocks, -, stands, moved⟩ := moves
  have whole : c.Moved u := start.trans (setMoved.trans (.of_blocks blocks))
  have requested : State.Requested { c with
      seq := u.seq, regulator := u.regulator, groups := u.groups, ladder := u.finish.ladder } u := by
    obtain ⟨p1, p2, p3, -, p5, p6, p7⟩ := whole
    refine ⟨fun b hb => ?_, p2, p3, by rw [u.finish_ladder], p5, p6, p7⟩
    have same := p1 b hb
    cases b <;> first | rfl | (exact absurd (by decide) hb) | exact same
  have useq : u.seq = t.seq := blocks.1 .seq (by decide)
  have uadmission : u.admission = s.admission := Eq.trans (whole.1 .admission (by decide)) admission
  have urges : s.Urges u.finish ↔
      t.seq.state ≠ v.seq.state ∨ ∃ i, (u.channel i).state ≠ (t.channel i).state := by
    simp [State.Urges, State.channel, State.claim, useq, uadmission, setGroups, groups, seq]
  have mode : t.loader.mode = c.loader.mode := congrArg _ (start.trans setMoved).loader
  have vmode : v.loader.mode = c.loader.mode := congrArg _ start.loader
  rw [State.urgentWaiting, vmode, waits] at setWaits
  rw [mode] at moved
  rw [State.finish_seq, State.finish_regulator, State.finish_groups]
  refine requested.followed (fun run urged => ?_) (fun quiet => ?_)
  · change c.loader.mode = .run at run
    rw [if_pos run] at moved setWaits
    by_cases anyMoved : ∃ i, (u.channel i).state ≠ (t.channel i).state
    · exact moved anyMoved
    · rw [stands (by simpa using anyMoved)]
      have changed := (urges.1 urged).resolve_right anyMoved
      exact (setWaits.resolve_left fun e => changed e.1).2
  · change c.loader.mode ≠ .run ∨ _ at quiet
    show u.composer.waiting = c.composer.waiting
    rw [urges] at quiet
    by_cases run : c.loader.mode = .run
    · have still := quiet.resolve_left (not_not_intro run)
      push Not at still
      rw [stands still.2]
      exact (setWaits.resolve_right fun e => e.1 still.1).2
    · rw [if_neg run] at moved setWaits
      have same : t.composer.waiting = c.composer.waiting := by tauto
      by_cases anyMoved : ∃ i, (u.channel i).state ≠ (t.channel i).state
      · rw [moved anyMoved, same]
      · rw [stands (by simpa using anyMoved), same]

/-! ### The own P and Q at the end of an event -/

/-- The own P and Q are those of the latest record where the composition at an event's end has cleared METER_FAIL, and
stand otherwise (R45). -/
theorem State.finish_own {s : State} {r : MeterRecord} (latest : s.metering.latest = some r) :
    (s.finish.island.ownP, s.finish.island.ownQ) =
      if s.composer.meterFail = true ∧ s.finish.composer.meterFail = false then (r.p, r.q)
      else (s.island.ownP, s.island.ownQ) := by
  have composer : s.finish.composer = s.resolve.flush.composer := s.resolve.flush.settle_frame .composer (by decide)
  have own : (s.finish.island.ownP, s.finish.island.ownQ)
      = (s.resolve.flush.island.ownP, s.resolve.flush.island.ownQ) := rfl
  have latest' : s.resolve.metering.latest = some r := latest
  rw [composer, own]
  unfold State.flush
  split
  · next k _ _ =>
    have judged : (s.resolve.compose k).composer.meterFail = s.composer.judge.meterFail := rfl
    have refreshed : (s.resolve.compose k).island
        = s.resolve.island.refreshOwn (s.composer.meterFail && !s.composer.judge.meterFail) s.resolve.metering.latest :=
      rfl
    rw [judged, refreshed, latest']
    cases s.composer.meterFail <;> cases s.composer.judge.meterFail <;> rfl
  · rw [if_neg (by simp)]
    rfl

/-! ### The record -/

/-- The record of a measurement, as the statements say it (R55). -/
theorem formRecord_spec (m : Measurement) (vNom : Nat) :
    let r := formRecord m vNom
    r.p = max (-32000) (min 32000 m.p) ∧ r.q = max (-32000) (min 32000 m.q)
      ∧ (r.voltage : Int) = max 0 (min 15000 m.voltage) ∧ (r.busValid = true ↔ vNom ≤ 10 * r.voltage)
      ∧ (r.busValid = true → (r.frequency : Int) = max 40000 (min 65535 m.frequency))
      ∧ (r.busValid = false → r.frequency = 0) := by
  intro r
  have valid : r.busValid = busValidAt r.voltage vNom := rfl
  refine ⟨rfl, rfl, Int.toNat_of_nonneg (by simp [clampInt]), by simp [valid, busValidAt], fun h => ?_, fun h => ?_⟩
  · have frequency : r.frequency = (clampInt 40000 65535 m.frequency).toNat := if_pos h
    rw [frequency]
    exact Int.toNat_of_nonneg (by simp [clampInt])
  · exact if_neg (by simpa [r, formRecord] using h)

/-! ### Delivery -/

/-- The card that a delivered record `r` has reached at the expiry at `d`, before the island has taken it (R18, R57). -/
def State.withRecord (s : State) (d : Nat) (r : MeterRecord) : State :=
  { s.advanceTo d with
    metering := { interval := some (max s.now d + 50000), latest := some r, warmUp := 0 }
    composer := { s.composer with arrival := true, freshCount := min 2 (s.composer.freshCount + 1) } }

/-- The card once the island has taken a delivered record too (R45, R57). -/
def State.takenRecord (s : State) (d : Nat) (r : MeterRecord) : State :=
  State.resolve { s.withRecord d r with island := s.island.refreshOwn (!s.composer.meterFail) (some r) }

/-- A record reaches the island without a change of its ties or its sharing mode (R45, R48). -/
theorem State.takenRecord_requested (s : State) (d : Nat) (r : MeterRecord) :
    (s.withRecord d r).Requested (s.takenRecord d r) := by
  refine State.Requested.trans (t := { s.withRecord d r with
    island := s.island.refreshOwn (!s.composer.meterFail) (some r) }) ?_ (State.resolve_requested _)
  refine ⟨fun b hb => ?_, .of_eq rfl, rfl, rfl, ?_⟩
  · cases b <;> first | rfl | exact absurd (by decide) hb
  · cases h : s.composer.meterFail <;> refine ⟨?_, ?_, ?_⟩ <;> rfl

/-- The own P and Q become a record's while METER_FAIL is clear, and are held while it is active (R45). -/
theorem State.takenRecord_own (s : State) (d : Nat) (r : MeterRecord) :
    ((s.takenRecord d r).island.ownP, (s.takenRecord d r).island.ownQ) =
      if s.composer.meterFail = true then (s.island.ownP, s.island.ownQ) else (r.p, r.q) := by
  show ((s.island.refreshOwn (!s.composer.meterFail) (some r)).ownP,
    (s.island.refreshOwn (!s.composer.meterFail) (some r)).ownQ) = _
  cases s.composer.meterFail <;> rfl

/-- The card once the regulator and, by its notice, the set sequencer have taken a record (R59, R86, R93). -/
def State.regulatedRecord (s : State) (d : Nat) (r : MeterRecord) : State :=
  let u := s.takenRecord d r
  let out := regulate u.conf u.inRun u.island u.seq.state u.regulator r
  State.takeNotice { u with regulator := out.1 } out.2

/-- The card once the stage counters have taken a record too (R132), before the end of the event. -/
def State.stagedRecord (s : State) (d : Nat) (r : MeterRecord) : State :=
  (s.regulatedRecord d r).stepStages (s.takenRecord d r).island r

/-- A delivered record passes the island, the regulator, the set sequencer and the stage counters (R57). -/
theorem exec_meteringInterval_delivers {s : State} {m : Measurement} {d : Nat} (h : s.Delivers m d) :
    exec (.meteringIntervalExpiry m) s = .next (s.stagedRecord d (formRecord m s.conf.vNom)).finish := by
  obtain ⟨awake, running, held, done, warm⟩ := h
  show execMeteringIntervalExpiry m s = _
  rw [execMeteringIntervalExpiry, onExpiry_of awake running]
  simp [held, done, warm, State.deliver, State.receiveRecord, State.stagedRecord, State.regulatedRecord,
    State.takenRecord, State.withRecord, State.after, meteringInterval, ms, State.conf]

/-- An interval that delivers nothing moves the interval timer, and the warm-up count where it formed a record (R54,
R56). -/
theorem exec_meteringInterval_discards {s : State} {m : Measurement} {d : Nat} (awake : s.Awake)
    (running : s.metering.interval = some d)
    (h : m.referenceHeld = false ∨ m.channelsDone = false ∨ 0 < s.metering.warmUp) :
    exec (.meteringIntervalExpiry m) s = .next { s.advanceTo d with metering := { s.metering with
      interval := some (max s.now d + 50000)
      warmUp := (if m.referenceHeld = true ∧ m.channelsDone = true then s.metering.warmUp - 1
        else s.metering.warmUp) } } := by
  show execMeteringIntervalExpiry m s = _
  rw [execMeteringIntervalExpiry, onExpiry_of awake running]
  by_cases formed : m.referenceHeld = true ∧ m.channelsDone = true
  · have warm : 0 < s.metering.warmUp := by simpa [formed.1, formed.2] using h
    simp [formed, warm, State.after, meteringInterval, ms]
  · simp [formed, State.after, meteringInterval, ms]

/-- The island frequency of a settled card is that of the latest record (R47). -/
theorem State.Settled.frequency {s : State} {r : MeterRecord} (h : s.Settled) (latest : s.metering.latest = some r) :
    s.island.frequency = r.frequency := by
  rw [← h.1]
  show s.busFrequency = _
  simp [State.busFrequency, latest]

/-- A composition with the arrival mark set, like the lack of one, makes no METER_FAIL (R18). -/
theorem State.finish_meterFail {s : State} (fresh : s.composer.arrival = true) (clear : s.composer.meterFail = false) :
    s.finish.composer.meterFail = false := by
  have dealt := s.finish_dealtWith
  unfold State.DealtWith at dealt
  split at dealt
  · rw [dealt.1.2]
    simp [fresh, clear]
  · rw [dealt.2.2]
    exact clear

/-- What becomes of a delivered record's card at the end of the event (R15, R16, R57). -/
theorem State.stagedRecord_followed (s : State) (d : Nat) (r : MeterRecord) :
    let t := (s.stagedRecord d r).finish
    s.Followed { s.withRecord d r with
      seq := t.seq, regulator := t.regulator, groups := t.groups, ladder := t.ladder } t :=
  State.MovedSet.followed ((State.Moved.of_requested (s.takenRecord_requested d r)).trans (.set _ _ _)) rfl rfl rfl rfl
    (State.takeNotice_moved _ _) (State.stepStages_moves _ _ _)

/-- The composer and the latest record before the end of the event (R18, R53). -/
theorem State.stagedRecord_kept (s : State) (d : Nat) (r : MeterRecord) :
    let u := s.stagedRecord d r
    u.composer.arrival = true ∧ u.composer.meterFail = s.composer.meterFail ∧ u.metering.latest = some r
      ∧ u.now = max s.now d := by
  intro u
  have moved : (s.withRecord d r).Moved u :=
    ((State.Moved.of_requested (s.takenRecord_requested d r)).trans (.set _ _ _)).trans
      ((State.takeNotice_moved _ _).1.trans (.of_blocks (State.stepStages_moves _ _ _).1))
  obtain ⟨frame, -, composer, -⟩ := moved
  have metering : u.metering = (s.withRecord d r).metering := frame .metering (by decide)
  have now : u.now = (s.withRecord d r).now := frame .clock (by decide)
  exact ⟨by rw [composer]; rfl, by rw [composer]; rfl, by rw [metering]; rfl, now⟩

/-- The regulator, the set sequencer and the stage counters leave the own P and Q alone (R45). -/
theorem State.stagedRecord_own (s : State) (d : Nat) (r : MeterRecord) :
    let u := s.stagedRecord d r
    (u.island.ownP, u.island.ownQ) =
      if s.composer.meterFail = true then (s.island.ownP, s.island.ownQ) else (r.p, r.q) := by
  intro u
  have stages : u.island = (s.regulatedRecord d r).island := State.stepStages_frame _ _ _ .island (by decide)
  obtain ⟨-, -, ⟨ownP, ownQ⟩, -⟩ : State.MovedSet _ (s.regulatedRecord d r) := State.takeNotice_moved _ _
  rw [stages, ownP, ownQ]
  exact s.takenRecord_own d r

/-- Settles O30: the record is followed through the notice and the stage counters to the end of the event. -/
theorem meteringIntervalFormsARecord : Obligations.MeteringIntervalFormsARecord := by
  intro s m d awake running
  refine ⟨exec_meteringInterval_discards awake running, fun delivers => ?_⟩
  let r := formRecord m s.conf.vNom
  let u := s.stagedRecord d r
  obtain ⟨p, q, voltage, valid, frequency, dead⟩ := formRecord_spec m s.conf.vNom
  obtain ⟨arrival, meterFail, latest, now⟩ := s.stagedRecord_kept d r
  have own := State.finish_own latest
  rw [meterFail, s.stagedRecord_own d r] at own
  refine ⟨u.finish, r, exec_meteringInterval_delivers delivers, ?_, p, q, voltage, valid, frequency, dead,
    (State.finish_settled u).frequency ((congrArg _ u.finish_metering).trans latest), fun clear => ?_, fun clear => ?_,
    fun fails => ?_⟩
  · rw [State.finish_now, now]
    exact s.stagedRecord_followed d r
  · exact State.finish_meterFail arrival (meterFail.trans clear)
  · have taken : (u.finish.island.ownP, u.finish.island.ownQ) = (r.p, r.q) := by
      rw [own]
      cases h : s.composer.meterFail <;> simp [clear, u]
    exact Prod.mk.inj taken
  · have before : s.composer.meterFail = true := by
      by_contra clear
      have cleared := State.finish_meterFail arrival (meterFail.trans (by simpa using clear))
      exact absurd (cleared.symm.trans fails) (by simp)
    have held : (u.finish.island.ownP, u.finish.island.ownQ) = (s.island.ownP, s.island.ownQ) := by
      rw [own]
      simp [before, fails, u]
    exact Prod.mk.inj held

end Sys2Proof.Machine
end

section
/-! The share frame on the lane (R2, R8): its layout, its check, and the receiver's reading of it. -/

namespace Sys2Proof.Machine

/-! ### The check -/

/-- A shift of the check register: the polynomial enters where the bit shifted out differs from the data bit (R2). -/
theorem crcBit_eq (r : Word) (bit : Bool) :
    crcBit r bit = if r.getLsbD 15 = bit then r <<< 1 else (r <<< 1) ^^^ 0x1021 := by
  simp [crcBit, BitVec.msb_eq_getLsbD_last, ite_not]

/-- The check takes each byte's most significant bit first (R2). -/
theorem crc_snoc (bs : List Byte) (b : Byte) : crc (bs ++ [b]) = (List.range 8).foldl
    (fun (r : Word) k => if r.getLsbD 15 = b.getLsbD (7 - k) then r <<< 1 else (r <<< 1) ^^^ 0x1021) (crc bs) := by
  have order : [7, 6, 5, 4, 3, 2, 1, 0] = (List.range 8).map (7 - ·) := rfl
  simp only [crc, List.foldl_append, List.foldl_cons, List.foldl_nil, crcByte, order, List.foldl_map, crcBit_eq]

/-! ### Numbers on the lane -/

theorem toNat_byteOf {n : Nat} (h : n < 256) : (byteOf n).toNat = n := by
  simp [byteOf, Nat.mod_eq_of_lt h]

/-- A number below 65,536 is read back from its two bytes. -/
theorem word16_byteOf {n : Nat} (h : n < 65536) : word16 (byteOf (n / 256)) (byteOf n) = n := by
  simp only [word16, byteOf, BitVec.toNat_ofNat]
  omega

/-- A signed number of 16 bits is read back from its two bytes. -/
theorem int16_byteOf {x : Int} (h : -32768 ≤ x ∧ x < 32768) :
    int16 (byteOf ((x % 65536).toNat / 256)) (byteOf (x % 65536).toNat) = x := by
  simp only [int16, word16_byteOf (show (x % 65536).toNat < 65536 by omega)]
  split <;> omega

/-! ### Codes on the lane -/

theorem FrameKind.ofCode_code (k : FrameKind) : FrameKind.ofCode k.code = some k := by cases k <;> rfl

theorem SetState.ofCode_code (st : SetState) : SetState.ofCode st.code = some st := by cases st <;> rfl

theorem GroupCode.ofCode_code (c : GroupCode) : GroupCode.ofCode c.code = some c := by cases c <;> rfl

theorem ClaimCode.ofCode_code (c : ClaimCode) : ClaimCode.ofCode c.code = some c := by cases c <;> rfl

theorem FrameKind.code_lt (k : FrameKind) : k.code < 256 := by cases k <;> decide

theorem SetState.code_lt (st : SetState) : st.code < 256 := by cases st <;> decide

theorem GroupCode.code_lt (c : GroupCode) : c.code < 256 := by cases c <;> decide

theorem ClaimCode.code_lt (c : ClaimCode) : c.code < 256 := by cases c <;> decide

theorem stationOf_num (i : Station) : stationOf i.num = some i := by
  have range : 1 ≤ i.num ∧ i.num ≤ 8 := ⟨by simp, i.isLt⟩
  rw [stationOf, dif_pos range]
  rfl

theorem TieView.ofByte_toByte (v : TieView) : TieView.ofByte (byteOf v.toByte) = v := by
  obtain ⟨a, b, c⟩ := v
  cases a <;> cases b <;> cases c <;> rfl

theorem FrameFlags.ofByte_toByte (f : FrameFlags) : FrameFlags.ofByte (byteOf f.toByte) = f := by
  obtain ⟨a, b, c, d, e⟩ := f
  cases a <;> cases b <;> cases c <;> cases d <;> cases e <;> rfl

/-! ### The lists of a frame -/

/-- The group entries are read back from their bytes (R2, R8). -/
theorem takeGroups_bytes (gs : List GroupItem) (rest : List Byte)
    (h : ∀ g ∈ gs, (1 ≤ g.rank ∧ g.rank ≤ 15) ∧ (1 ≤ g.nominal ∧ g.nominal ≤ 20000)) :
    takeGroups gs.length (gs.flatMap GroupItem.bytes ++ rest) = some (gs, rest) := by
  induction gs with
  | nil => rfl
  | cons g gs ih =>
    obtain ⟨⟨_, rank⟩, ⟨_, nominal⟩⟩ := h g (by simp)
    have first : (byteOf (16 * g.index.val + g.rank)).toNat = 16 * g.index.val + g.rank := toNat_byteOf (by omega)
    have index : (16 * g.index.val + g.rank) / 16 = g.index.val := by omega
    have rank' : (16 * g.index.val + g.rank) % 16 = g.rank := by omega
    have tail := ih fun x hx => h x (by simp [hx])
    simp [takeGroups, GroupItem.bytes, bytes16, toNat_byteOf g.state.code_lt, GroupCode.ofCode_code, first, index, rank',
      tail, word16_byteOf (show g.nominal < 65536 by omega)]

/-- The claim entries are read back from their bytes (R2, R8). -/
theorem takeClaims_bytes (cs : List ClaimItem) (rest : List Byte)
    (h : ∀ c ∈ cs, (1 ≤ c.demand ∧ c.demand ≤ 20000) ∧ c.age ≤ 255) :
    takeClaims cs.length (cs.flatMap ClaimItem.bytes ++ rest) = some (cs, rest) := by
  induction cs with
  | nil => rfl
  | cons c cs ih =>
    obtain ⟨⟨_, demand⟩, age⟩ := h c (by simp)
    have tail := ih fun x hx => h x (by simp [hx])
    simp [takeClaims, ClaimItem.bytes, bytes16, toNat_byteOf c.state.code_lt, ClaimCode.ofCode_code,
      toNat_byteOf (show c.index.val < 256 by omega), toNat_byteOf (show c.age < 256 by omega),
      tail, word16_byteOf (show c.demand < 65536 by omega), Nat.le_of_lt_succ c.index.isLt]

/-- As many group entries are read as were asked for, and the bytes left behind them end those they were read from. -/
theorem takeGroups_spec {n : Nat} {bs rest : List Byte} {gs : List GroupItem} (h : takeGroups n bs = some (gs, rest)) :
    gs.length = n ∧ rest <:+ bs := by
  fun_induction takeGroups n bs generalizing gs rest with
  | case1 bs =>
    obtain ⟨rfl, rfl⟩ : [] = gs ∧ bs = rest := by simpa using h
    exact ⟨rfl, List.suffix_rfl⟩
  | case2 n a high low st bs ih =>
    obtain ⟨state, -, h⟩ := Option.bind_eq_some_iff.1 h
    split at h
    · obtain ⟨⟨tail, left⟩, taken, h⟩ := Option.bind_eq_some_iff.1 h
      obtain ⟨rfl, rfl⟩ := Prod.mk.inj (Option.some.inj h)
      obtain ⟨length, suffix⟩ := ih taken
      exact ⟨congrArg Nat.succ length, suffix.trans ⟨[a, high, low, st], rfl⟩⟩
    · exact absurd h (by simp)
  | case3 => exact absurd h (by simp)

/-- As many claim entries are read as were asked for, and the bytes left behind them end those they were read from. -/
theorem takeClaims_spec {n : Nat} {bs rest : List Byte} {cs : List ClaimItem} (h : takeClaims n bs = some (cs, rest)) :
    cs.length = n ∧ rest <:+ bs := by
  fun_induction takeClaims n bs generalizing cs rest with
  | case1 bs =>
    obtain ⟨rfl, rfl⟩ : [] = cs ∧ bs = rest := by simpa using h
    exact ⟨rfl, List.suffix_rfl⟩
  | case2 n index high low st age bs ih =>
    obtain ⟨state, -, h⟩ := Option.bind_eq_some_iff.1 h
    split at h
    · obtain ⟨⟨tail, left⟩, taken, h⟩ := Option.bind_eq_some_iff.1 h
      obtain ⟨rfl, rfl⟩ := Prod.mk.inj (Option.some.inj h)
      obtain ⟨length, suffix⟩ := ih taken
      exact ⟨congrArg Nat.succ length, suffix.trans ⟨[index, high, low, st, age], rfl⟩⟩
    · exact absurd h (by simp)
  | case3 => exact absurd h (by simp)

/-! ### The receiver -/

/-- The receiver takes no bytes that are too short for a frame's fields (R8). -/
theorem parseFrame_shape {bs : List Byte} {f : Frame} (h : parseFrame bs = some f) :
    ∃ s0 s1 kind ident number place tie set flags r1 r0 x1 x0 p1 p0 q1 q0 f1 f0 age counts rest,
      bs = s0 :: s1 :: kind :: ident :: number :: place :: tie :: set :: flags :: r1 :: r0 :: x1 :: x0 :: p1 :: p0
        :: q1 :: q0 :: f1 :: f0 :: age :: counts :: rest := by
  unfold parseFrame at h
  split at h
  · exact ⟨_, _, _, _, _, _, _, _, _, _, _, _, _, _, _, _, _, _, _, _, _, _, rfl⟩
  · exact absurd h (by simp)

/-- When the receiver takes bytes as a frame (R2, R8): the sync, the counts and the length, each code, each list, the
check, and every field within its values. -/
theorem parseFrame_iff {bs rest : List Byte} {f : Frame}
    {s0 s1 kind ident number place tie set flags r1 r0 x1 x0 p1 p0 q1 q0 f1 f0 age counts : Byte}
    (shape : bs = s0 :: s1 :: kind :: ident :: number :: place :: tie :: set :: flags :: r1 :: r0 :: x1 :: x0 :: p1 :: p0
      :: q1 :: q0 :: f1 :: f0 :: age :: counts :: rest) :
    parseFrame bs = some f ↔
      (s0 = 0xC3#8 ∧ s1 = 0x3C#8 ∧ counts.toNat % 16 ≤ 6 ∧ counts.toNat / 16 ≤ 2
        ∧ bs.length = frameLength (counts.toNat % 16) (counts.toNat / 16))
      ∧ FrameKind.ofCode kind.toNat = some f.kind ∧ stationOf ident.toNat = some f.station
      ∧ SetState.ofCode set.toNat = some f.content.setState
      ∧ (∃ left, takeGroups (counts.toNat % 16) rest = some (f.content.groups, left)
        ∧ takeClaims (counts.toNat / 16) left
          = some (f.content.claims, bytes16 (crc ((bs.drop 2).take (bs.length - 4))).toNat))
      ∧ f.Good
      ∧ f = { f with
          number := number.toNat
          content := { f.content with
            islandSection := place.toNat % 16, startRank := place.toNat / 16, tieView := TieView.ofByte tie
            flags := FrameFlags.ofByte flags, rating := word16 r1 r0, reactiveRating := word16 x1 x0
            p := int16 p1 p0, q := int16 q1 q0, frequency := word16 f1 f0, actionAge := age.toNat } } := by
  have guards (c : Prop) [Decidable c] : (guard c : Option Unit) = some () ↔ c := by
    by_cases h : c <;> simp [guard, h]
  generalize check : (crc ((bs.drop 2).take (bs.length - 4))).toNat = sum
  generalize length : bs.length = size
  unfold parseFrame
  rw [shape] at check length ⊢
  dsimp only
  rw [check, length]
  simp only [Option.bind_eq_bind, Option.bind_eq_some_iff]
  constructor
  · rintro ⟨⟨⟩, header, k, kindRead, i, stationRead, st, stateRead, ⟨gs, left⟩, groupsRead, ⟨cs, last⟩, claimsRead, ⟨⟩,
      checkRead, ⟨⟩, good, ⟨⟩⟩
    obtain rfl := (guards _).1 checkRead
    exact ⟨(guards _).1 header, kindRead, stationRead, stateRead, ⟨left, groupsRead, claimsRead⟩, (guards _).1 good, rfl⟩
  · rintro ⟨header, kindRead, stationRead, stateRead, ⟨left, groupsRead, claimsRead⟩, good, same⟩
    refine ⟨(), (guards _).2 header, _, kindRead, _, stationRead, _, stateRead, _, groupsRead, _, claimsRead, (),
      (guards _).2 rfl, (), (guards _).2 ?_, ?_⟩
    · exact same ▸ good
    · exact congrArg some same.symm

/-- What the receiver takes is good, and stands in bytes with the sync, the length and the check (R8). -/
theorem parseFrame_spec {bs : List Byte} {f : Frame} (h : parseFrame bs = some f) :
    f.Good ∧ bs.take 2 = [0xC3, 0x3C]
      ∧ bs.length = 23 + 4 * f.content.groups.length + 5 * f.content.claims.length
      ∧ bs.drop (bs.length - 2) = bytes16 (crc ((bs.drop 2).take (bs.length - 4))).toNat := by
  obtain ⟨_, _, _, _, _, _, _, _, _, _, _, _, _, _, _, _, _, _, _, _, counts, rest, shape⟩ := parseFrame_shape h
  obtain ⟨⟨rfl, rfl, -, -, length⟩, -, -, -, ⟨left, groupsRead, claimsRead⟩, good, -⟩ := (parseFrame_iff shape).1 h
  obtain ⟨groups, leftEnds⟩ := takeGroups_spec groupsRead
  obtain ⟨claims, checkEnds⟩ := takeClaims_spec claimsRead
  refine ⟨good, by rw [shape]; rfl, by rw [length, groups, claims, frameLength], ?_⟩
  have header : rest <:+ bs := by
    rw [shape]
    exact ⟨_ :: _ :: _ :: _ :: _ :: _ :: _ :: _ :: _ :: _ :: _ :: _ :: _ :: _ :: _ :: _ :: _ :: _ :: _ :: _ :: [_], rfl⟩
  exact (List.suffix_iff_eq_drop.1 (checkEnds.trans (leftEnds.trans header))).symm

/-- The check covers what lies between the sync and the check (R2). -/
theorem Frame.checked_bytes (f : Frame) : (f.bytes.drop 2).take (f.bytes.length - 4) = f.covered := by
  have size : f.bytes.length - 4 = f.covered.length := by simp [Frame.bytes, bytes16]
  rw [size]
  exact List.take_left

/-- Every good frame is read back from its bytes (R8). -/
theorem parseFrame_bytes {f : Frame} (good : f.Good) : parseFrame f.bytes = some f := by
  obtain ⟨kind, station, n, r⟩ := f
  have content : r.Good := good.2
  have number : n ≤ 255 := good.1.2
  obtain ⟨⟨_, islandSection⟩, ⟨_, startRank⟩, ⟨_, rating⟩, ⟨_, reactive⟩, p, q, frequency, actionAge, groups, claims,
    groupItems, claimItems, -, -⟩ := content
  generalize hf : (⟨kind, station, n, r⟩ : Frame) = f at good ⊢
  have shape : f.bytes = 0xC3#8 :: 0x3C#8 :: byteOf kind.code :: byteOf station.num :: byteOf n
      :: byteOf (16 * r.startRank + r.islandSection) :: byteOf r.tieView.toByte :: byteOf r.setState.code
      :: byteOf r.flags.toByte :: byteOf (r.rating / 256) :: byteOf r.rating :: byteOf (r.reactiveRating / 256)
      :: byteOf r.reactiveRating :: byteOf ((r.p % 65536).toNat / 256) :: byteOf (r.p % 65536).toNat
      :: byteOf ((r.q % 65536).toNat / 256) :: byteOf (r.q % 65536).toNat :: byteOf (r.frequency / 256)
      :: byteOf r.frequency :: byteOf r.actionAge :: byteOf (16 * r.claims.length + r.groups.length)
      :: (r.groups.flatMap GroupItem.bytes ++ (r.claims.flatMap ClaimItem.bytes ++ bytes16 (crc f.covered).toNat)) := by
    show _ :: _ :: (f.covered ++ _) = _
    simp [← hf, Frame.covered, bytes16, signed16]
  have counts : (byteOf (16 * r.claims.length + r.groups.length)).toNat = 16 * r.claims.length + r.groups.length :=
    toNat_byteOf (by omega)
  have groupCount : (16 * r.claims.length + r.groups.length) % 16 = r.groups.length := by omega
  have claimCount : (16 * r.claims.length + r.groups.length) / 16 = r.claims.length := by omega
  have place : (byteOf (16 * r.startRank + r.islandSection)).toNat = 16 * r.startRank + r.islandSection :=
    toNat_byteOf (by omega)
  have sectionPart : (16 * r.startRank + r.islandSection) % 16 = r.islandSection := by omega
  have rankPart : (16 * r.startRank + r.islandSection) / 16 = r.startRank := by omega
  refine (parseFrame_iff shape).2 ⟨⟨rfl, rfl, ?_⟩, ?_, ?_, ?_, ?_, good, ?_⟩
  · rw [counts, groupCount, claimCount, f.length_bytes, ← hf]
    exact ⟨groups, claims, rfl⟩
  · rw [toNat_byteOf kind.code_lt, FrameKind.ofCode_code, ← hf]
  · rw [toNat_byteOf (show station.val + 1 < 256 by omega), stationOf_num, ← hf]
  · rw [toNat_byteOf r.setState.code_lt, SetState.ofCode_code, ← hf]
  · rw [counts, groupCount, claimCount, Frame.checked_bytes]
    have claimsRead := takeClaims_bytes r.claims (bytes16 (crc f.covered).toNat) claimItems
    rw [← hf] at claimsRead ⊢
    exact ⟨_, takeGroups_bytes _ _ groupItems, claimsRead⟩
  · rw [place, sectionPart, rankPart, TieView.ofByte_toByte, FrameFlags.ofByte_toByte, toNat_byteOf (by omega : n < 256),
      word16_byteOf (by omega : r.rating < 65536), word16_byteOf (by omega : r.reactiveRating < 65536),
      int16_byteOf (by omega), int16_byteOf (by omega), word16_byteOf (by omega : r.frequency < 65536),
      toNat_byteOf (by omega : r.actionAge < 256), ← hf]

/-! ### The layout table -/

theorem FrameKind.code_eq (k : FrameKind) : k.code = if k = .periodic then 1 else 2 := by cases k <;> rfl

/-- A set state's code is its place in the table of R2. -/
theorem SetState.code_eq (st : SetState) : st.code = [SetState.off, .standby, .starting, .loading, .sharing, .unloading,
    .opening, .tripped, .startFailed].idxOf st := by cases st <;> rfl

/-- A group state's code is its place in the table of R2. -/
theorem GroupCode.code_eq (c : GroupCode) : c.code = [GroupCode.connected, .shedPending, .shed, .failed,
    .restorePending, .openExternal, .inhibited].idxOf c := by cases c <;> rfl

/-- A claim state's code is its place in the table of R2, from 1 on. -/
theorem ClaimCode.code_eq (c : ClaimCode) : c.code = 1 + [ClaimCode.claiming, .granted, .waiting].idxOf c := by
  cases c <;> rfl

theorem TieView.toByte_eq (v : TieView) : v.toByte =
    (if v.tie1 then 2 ^ 0 else 0) + (if v.tie2 then 2 ^ 1 else 0) + (if v.tie3 then 2 ^ 2 else 0) := by
  obtain ⟨a, b, c⟩ := v
  cases a <;> cases b <;> cases c <;> rfl

theorem FrameFlags.toByte_eq (f : FrameFlags) : f.toByte =
    (if f.breakerClosed then 2 ^ 0 else 0) + (if f.stale then 2 ^ 1 else 0) + (if f.droop then 2 ^ 2 else 0)
      + (if f.configFault then 2 ^ 3 else 0) + (if f.unloadPending then 2 ^ 4 else 0) := by
  obtain ⟨a, b, c, d, e⟩ := f
  cases a <;> cases b <;> cases c <;> cases d <;> cases e <;> rfl

/-- Settles O18: the layout by the codes' places, the reading by `parseFrame_bytes` and `parseFrame_spec`. -/
theorem frameSurvivesTheLane : Obligations.FrameSurvivesTheLane := by
  unfold Obligations.FrameSurvivesTheLane
  intro one two signed bit groupStates setStates
  refine ⟨⟨rfl, crc_snoc⟩, fun f => ?_, fun bs f read => parseFrame_spec read⟩
  intro r covered
  have groupBytes : GroupItem.bytes = fun g =>
      one (16 * g.index.val + g.rank) ++ two g.nominal ++ one (groupStates.idxOf g.state) := by
    funext g
    rw [GroupItem.bytes, GroupCode.code_eq]
    rfl
  have claimBytes : ClaimItem.bytes = fun c => one c.index.val ++ two c.demand
      ++ one (1 + [ClaimCode.claiming, .granted, .waiting].idxOf c.state) ++ one c.age := by
    funext c
    rw [ClaimItem.bytes, ClaimCode.code_eq]
    rfl
  have layout : f.covered = covered := by
    rw [Frame.covered, groupBytes, claimBytes, FrameKind.code_eq, SetState.code_eq, TieView.toByte_eq,
      FrameFlags.toByte_eq]
    rfl
  have length : f.bytes.length = 23 + 4 * r.groups.length + 5 * r.claims.length := f.length_bytes
  refine ⟨by rw [← layout]; rfl, length, fun good => ⟨parseFrame_bytes good, ?_⟩⟩
  obtain ⟨-, -, -, -, -, -, -, -, -, groups, claims, -⟩ := good
  change r.groups.length ≤ 6 at groups
  change r.claims.length ≤ 2 at claims
  omega

end Sys2Proof.Machine
end

section
/-! The frame that a composition builds (R17): its fields, its lists, and that it is good past LOAD. -/

namespace Sys2Proof.Machine

/-! ### The configuration in use -/

/-- What a frame carries of the configuration lies within the layout table (R2, R162 to R164). -/
def Configuration.Framed (c : Configuration) : Prop :=
  (1 ≤ c.ownSection ∧ c.ownSection ≤ 4) ∧ (1 ≤ c.startRank ∧ c.startRank ≤ 8)
    ∧ (100 ≤ c.rating ∧ c.rating ≤ 25000) ∧ (100 ≤ c.reactiveRating ∧ c.reactiveRating ≤ 20000)
    ∧ (∀ g ∈ c.groups, (1 ≤ g.rank ∧ g.rank ≤ 15) ∧ (1 ≤ g.nominal ∧ g.nominal ≤ 20000))
    ∧ ∀ d ∈ c.demands, 1 ≤ d ∧ d ≤ 20000

theorem within_iff (lo hi x : Nat) : within lo hi x = true ↔ lo ≤ x ∧ x ≤ hi := by simp [within]

/-- The strap ratings run from 1,000 to 16,000 kW (R162). -/
theorem strapRating_range (c : BitVec 4) : 1000 ≤ strapRating c ∧ strapRating c ≤ 16000 := by
  have place := c.isLt
  unfold strapRating
  generalize c.toNat = n at place
  interval_cases n <;> decide

theorem strapConfiguration_framed (st : StrapPins) : (strapConfiguration st).Framed := by
  obtain ⟨low, high⟩ := strapRating_range st.ratingClass
  have place := st.strapSection.isLt
  have reactive : 750 ≤ (roundDiv (3 * strapRating st.ratingClass) 4).toNat
      ∧ (roundDiv (3 * strapRating st.ratingClass) 4).toNat ≤ 12000 := by
    unfold roundDiv
    split <;> omega
  refine ⟨?_, by simp [strapConfiguration], ?_, ?_, by simp [strapConfiguration], by simp [strapConfiguration]⟩
  · show 1 ≤ st.strapSection.toNat + 1 ∧ st.strapSection.toNat + 1 ≤ 4
    omega
  · show 100 ≤ strapRating st.ratingClass ∧ strapRating st.ratingClass ≤ 25000
    omega
  · show 100 ≤ (roundDiv (3 * strapRating st.ratingClass) 4).toNat
      ∧ (roundDiv (3 * strapRating st.ratingClass) 4).toNat ≤ 20000
    omega

/-- An image without a fault has every field within its values (R163). -/
theorem imageFieldsGood_of_noFault {im : List Word} (h : firstFaultOf im = 0) : imageFieldsGood im = true := by
  by_contra bad
  rw [firstFaultOf] at h
  simp only [if_pos bad] at h
  split_ifs at h

theorem imageConfiguration_framed (st : StrapPins) {im : List Word} (h : firstFaultOf im = 0) :
    (imageConfiguration st im).Framed := by
  have fields := imageFieldsGood_of_noFault h
  simp only [imageFieldsGood, Bool.and_eq_true, within_iff, List.all_eq_true] at fields
  obtain ⟨⟨⟨⟨⟨⟨⟨⟨⟨⟨⟨ownSection, rating⟩, reactive⟩, -⟩, -⟩, startRank⟩, -⟩, -⟩, -⟩, -⟩, slots⟩, demands⟩ := fields
  refine ⟨ownSection, startRank, rating, reactive, fun g hg => ?_, fun d hd => demands d hd⟩
  obtain ⟨slot, used, rfl⟩ := List.mem_map.1 hg
  obtain ⟨⟨-, rank⟩, nominal⟩ := slots slot used
  exact ⟨rank, nominal⟩

/-- Whatever straps and image were read, the configuration formed lies within the layout table (R164). -/
theorem formConfiguration_framed (st : StrapPins) (im : List Word) : (formConfiguration st im).Framed := by
  unfold formConfiguration
  split
  · next good => exact imageConfiguration_framed st good
  · exact strapConfiguration_framed st

/-! ### The lists of a composed frame -/

/-- What is drawn from the channels in turn stands in ascending index. -/
theorem filterMap_finRange_ascending {n : Nat} {α : Type} {f : Fin n → Option α} {index : α → Fin n}
    (h : ∀ i a, f i = some a → index a = i) : (((List.finRange n).filterMap f).map index).Pairwise (· < ·) := by
  rw [List.pairwise_map, List.pairwise_filterMap]
  refine (List.pairwise_lt_finRange n).imp fun {i j} less a ha b hb => ?_
  rw [h i a ha, h j b hb]
  exact less

/-- The group entries of a frame (R121). -/
theorem State.mem_frameGroups (s : State) (g : GroupItem) : g ∈ s.frameGroups ↔
    ∃ record st, s.groupRecord g.index = some record ∧ (s.channel g.index).state = some st
      ∧ g.rank = record.rank ∧ g.nominal = record.nominal ∧ g.state = st.frameCode := by
  simp only [State.frameGroups, List.mem_filterMap, List.mem_finRange, true_and]
  constructor
  · rintro ⟨i, h⟩
    split at h
    · next record st configured held =>
      cases h
      exact ⟨record, st, configured, held, rfl, rfl, rfl⟩
    · exact absurd h (by simp)
  · rintro ⟨record, st, configured, held, rank, nominal, state⟩
    refine ⟨g.index, ?_⟩
    rw [configured, held]
    simp [← rank, ← nominal, ← state]

theorem State.frameGroups_ascending (s : State) : (s.frameGroups.map (·.index)).Pairwise (· < ·) := by
  refine filterMap_finRange_ascending fun i g h => ?_
  split at h
  · cases h
    rfl
  · exact absurd h (by simp)

/-- A frame carries no more group entries than there are channels (R2). -/
theorem State.length_frameGroups (s : State) : s.frameGroups.length ≤ 6 := by
  unfold State.frameGroups
  exact (List.length_filterMap_le _ _).trans_eq List.length_finRange

/-- The claim entries of a frame (R17, R161). -/
theorem State.mem_frameClaims (s : State) (x : ClaimItem) : x ∈ s.frameClaims ↔
    s.demand x.index = some x.demand ∧ (s.claim x.index).state.listed = some x.state
      ∧ x.age = (s.claim x.index).age := by
  simp only [State.frameClaims, List.mem_filterMap, List.mem_finRange, true_and]
  constructor
  · rintro ⟨n, h⟩
    split at h
    · next d c configured listed =>
      cases h
      exact ⟨configured, listed, rfl⟩
    · exact absurd h (by simp)
  · rintro ⟨configured, listed, age⟩
    refine ⟨x.index, ?_⟩
    rw [configured, listed]
    simp [← age]

theorem State.frameClaims_ascending (s : State) : (s.frameClaims.map (·.index)).Pairwise (· < ·) := by
  refine filterMap_finRange_ascending fun n x h => ?_
  split at h
  · cases h
    rfl
  · exact absurd h (by simp)

/-- A frame carries no more claim entries than there are consumer channels (R2). -/
theorem State.length_frameClaims (s : State) : s.frameClaims.length ≤ 2 := by
  unfold State.frameClaims
  exact (List.length_filterMap_le _ _).trans_eq List.length_finRange

/-! ### A good frame -/

/-- The values a composition sends are the latest record's or those last sent (R18). -/
theorem State.sentValues_cases (s : State) : (∃ r, s.metering.latest = some r ∧ s.sentValues = (r.p, r.q, r.frequency))
    ∨ s.sentValues = (s.composer.lastP, s.composer.lastQ, s.composer.lastFrequency) := by
  unfold State.sentValues
  split
  · next r _ latest => exact .inl ⟨r, latest, rfl⟩
  · exact .inr rfl

/-- The configuration of a card past LOAD is the one formed there (R164). -/
theorem State.ComposerSafe.framed {s : State} (h : s.ComposerSafe) (past : s.loader.mode ≠ .load) : s.conf.Framed := by
  have formed : s.conf = formConfiguration s.loader.straps s.loader.image := by
    rw [State.conf, h.1 past]
    rfl
  rw [formed]
  exact formConfiguration_framed _ _

/-- A frame composed past LOAD, under the two invariants, is good (R2, R17, R164). -/
theorem State.composedFrame_good {s : State} (k : FrameKind) (past : s.loader.mode ≠ .load) (composer : s.ComposerSafe)
    (counts : s.CountsSafe) : (s.composedFrame k).Good := by
  obtain ⟨ownSection, startRank, rating, reactive, groups, demands⟩ := composer.framed past
  obtain ⟨-, number, last, latest⟩ := composer
  obtain ⟨-, -, -, -, -, -, actionAge, claimAge⟩ := counts
  have sent : (-32000 ≤ s.sentValues.1 ∧ s.sentValues.1 ≤ 32000) ∧ (-32000 ≤ s.sentValues.2.1 ∧ s.sentValues.2.1 ≤ 32000)
      ∧ (s.sentValues.2.2 = 0 ∨ (40000 ≤ s.sentValues.2.2 ∧ s.sentValues.2.2 ≤ 65535)) := by
    rcases s.sentValues_cases with ⟨r, some, values⟩ | values
    · rw [values]
      exact latest r some
    · rw [values]
      exact last
  obtain ⟨p, q, frequency⟩ := sent
  refine ⟨number, ownSection, startRank, rating, reactive, p, q, frequency, actionAge, ?_, ?_, fun g hg => ?_,
    fun x hx => ?_, ?_, ?_⟩
  · exact s.length_frameGroups
  · exact s.length_frameClaims
  · obtain ⟨record, -, configured, -, rank, nominal, -⟩ := (s.mem_frameGroups g).1 hg
    rw [rank, nominal]
    exact groups record (List.mem_of_find?_eq_some configured)
  · obtain ⟨configured, -, age⟩ := (s.mem_frameClaims x).1 hx
    rw [age]
    exact ⟨demands _ (List.mem_of_getElem? configured), claimAge _⟩
  · exact s.frameGroups_ascending.imp ne_of_lt
  · exact s.frameClaims_ascending.imp ne_of_lt

/-- Settles O19: each list by what it is drawn from, and the ranges by the configuration formed in LOAD. -/
theorem composedFrameIsGood : Obligations.ComposedFrameIsGood := by
  intro s k
  refine ⟨⟨rfl, rfl, rfl⟩, ⟨rfl, rfl, rfl, rfl⟩, ⟨rfl, rfl, rfl⟩, ⟨rfl, rfl, ?_, ?_, rfl⟩, fun r fresh latest => ?_,
    fun stale => ?_, ⟨s.frameGroups_ascending, s.mem_frameGroups⟩, ⟨s.frameClaims_ascending, fun x => ?_⟩,
    fun past composer counts => ?_⟩
  · show (s.island.mode == .droop) = true ↔ _
    simp
  · show s.configFault = true ↔ _
    simp [State.configFault, Option.isSome_iff_ne_none]
  · have sent := State.sentValues_fresh fresh latest
    exact ⟨congrArg (·.1) sent, congrArg (·.2.1) sent, congrArg (·.2.2) sent⟩
  · have sent := State.sentValues_stale stale
    exact ⟨congrArg (·.1) sent, congrArg (·.2.1) sent, congrArg (·.2.2) sent⟩
  · dsimp only
    rw [← ClaimState.listed_iff]
    exact s.mem_frameClaims x
  · have good := State.composedFrame_good k past composer counts
    exact ⟨good, parseFrame_bytes good⟩

end Sys2Proof.Machine
end

section
/-! The shed ladder as it is listed (R126): from sources without a double index or a double member it holds at most 48
entries, no key twice, and stands in its order. -/

namespace Sys2Proof.Machine

/-- A ladder within its bound, without a key twice, and in its order (R126). -/
def LadderListed (es : List LadderEntry) : Prop :=
  es.length ≤ 48 ∧ (es.map LadderEntry.key).Nodup ∧ es.Pairwise LadderEntry.Before

/-- Eight stations with six groups each have 48 keys. -/
theorem length_le_of_keys_nodup {es : List LadderEntry} (keys : (es.map LadderEntry.key).Nodup) : es.length ≤ 48 := by
  have injective : Function.Injective fun k : Key => (k.station, k.index) := by
    rintro ⟨_, _⟩ ⟨_, _⟩ same
    simpa using same
  simpa using (keys.map injective).length_le_card

/-- The order's number decides between two entries of different keys (R126). -/
theorem LadderEntry.before_of_order_le {a b : LadderEntry} (le : a.order ≤ b.order) (ne : a.key ≠ b.key) :
    a.Before b := by
  have apart : a.station.val ≠ b.station.val ∨ a.index.val ≠ b.index.val := by
    by_contra same
    push Not at same
    exact ne (by simp [LadderEntry.key, Fin.ext same.1, Fin.ext same.2])
  unfold LadderEntry.order at le
  simp only [LadderEntry.Before, Fin.lt_def, Fin.ext_iff]
  omega

/-- Sorting by the order's number lists entries of different keys (R126). -/
theorem ladderListed_insertionSort {es : List LadderEntry} (keys : (es.map LadderEntry.key).Nodup) :
    LadderListed (es.insertionSort fun a b => a.order ≤ b.order) := by
  have perm := List.perm_insertionSort (fun a b : LadderEntry => a.order ≤ b.order) es
  have keys' := ((perm.map LadderEntry.key).nodup_iff).2 keys
  have sorted : (es.insertionSort fun a b => a.order ≤ b.order).Pairwise fun a b => a.order ≤ b.order :=
    List.pairwise_insertionSort _ _
  exact ⟨length_le_of_keys_nodup keys', keys',
    (sorted.and (List.pairwise_map.1 keys')).imp fun h => LadderEntry.before_of_order_le h.1 h.2⟩

/-- The own entries have different keys where the group records have different indices (R110, R163). -/
theorem State.ownEntries_keys_nodup {s : State} (groups : (s.conf.groups.map (·.index)).Nodup) :
    (s.ownEntries.map LadderEntry.key).Nodup := by
  refine List.pairwise_map.2 (List.Pairwise.filterMap _ ?_ (List.pairwise_map.1 groups))
  intro g h ne x hx y hy same
  refine ne ?_
  obtain ⟨_, -, rfl⟩ := Option.map_eq_some_iff.1 hx
  obtain ⟨_, -, rfl⟩ := Option.map_eq_some_iff.1 hy
  exact congrArg Key.index same

/-- A peer's entries have different keys where its record has no index twice (R8). -/
theorem peerEntries_keys_nodup {i : Station} {e : PeerEntry}
    (record : ∀ r, e.record = some r → (r.groups.map (·.index)).Nodup) :
    ((peerEntries i e).map LadderEntry.key).Nodup := by
  have listed (r : PeerRecord) (some : e.record = some r) (owner : OwnerKind) :
      ((r.groups.map fun g => ({ station := i, index := g.index, rank := g.rank, nominal := g.nominal, state := g.state
                                 owner } : LadderEntry)).map LadderEntry.key).Nodup := by
    rw [List.map_map]
    exact List.Nodup.of_map Key.index (by simpa [Function.comp_def, LadderEntry.key] using record r some)
  unfold peerEntries
  split
  · exact listed _ ‹_› .live
  · exact listed _ ‹_› .stale
  · exact .nil

/-- The ladder as listed from sources that hold no index and no member twice (R8, R41, R126, R163). -/
theorem State.ladderOf_listed {s : State} (groups : (s.conf.groups.map (·.index)).Nodup)
    (records : ∀ i r, (s.entry i).record = some r → (r.groups.map (·.index)).Nodup) (members : s.island.members.Nodup) :
    LadderListed s.ladderOf := by
  have stationOf {i : Station} {e : LadderEntry}
      (mem : e ∈ if i = s.own then [] else peerEntries i (s.entry i)) : e.station = i ∧ i ≠ s.own := by
    split at mem
    · simp at mem
    · exact ⟨((mem_peerEntries _ _ _).1 mem).1, ‹_›⟩
  refine ladderListed_insertionSort (List.pairwise_map.2 (List.pairwise_append.2 ⟨?_, List.pairwise_flatMap.2 ⟨?_, ?_⟩, ?_⟩))
  · exact List.pairwise_map.1 (State.ownEntries_keys_nodup groups)
  · intro i _
    split
    · exact .nil
    · exact List.pairwise_map.1 (peerEntries_keys_nodup (records i))
  · exact members.imp fun ne a ha b hb same =>
      ne ((stationOf ha).1.symm.trans ((congrArg Key.station same).trans (stationOf hb).1))
  · intro a ha b hb same
    obtain ⟨i, -, hb⟩ := List.mem_flatMap.1 hb
    obtain ⟨station, ne⟩ := stationOf hb
    exact ne (station.symm.trans ((congrArg Key.station same).symm.trans ((s.mem_ownEntries a).1 ha).2.1))

end Sys2Proof.Machine
end

section
/-! What the commands leave of the receive queue, the peer table and the shed ladder (R21, R23, R24, R126): most do not
touch them, and those that end an event leave a settled card, whose ladder is listed from its sources. -/

namespace Sys2Proof.Machine

/-! ### The table and the ladder kept -/

/-- From `s` to `t` the queue and the peer table stay well formed, and with them the ladder. -/
def State.KeepsTables (s t : State) : Prop :=
  (s.TableSafe → t.TableSafe) ∧ (s.TableSafe → s.LadderSafe → t.LadderSafe)

theorem State.KeepsTables.refl (s : State) : s.KeepsTables s := ⟨id, fun _ => id⟩

theorem State.KeepsTables.trans {s t u : State} (h : s.KeepsTables t) (k : t.KeepsTables u) : s.KeepsTables u :=
  ⟨k.1 ∘ h.1, fun table ladder => k.2 (h.1 table) (h.2 table ladder)⟩

/-- The queue and the peer table depend on the frames, the entries, the own identity and whether the card is in LOAD. -/
theorem State.TableSafe.congr {s t : State} (table : s.TableSafe) (frames : t.rx.frames = s.rx.frames)
    (entries : t.peers.entries = s.peers.entries) (config : t.loader.config = s.loader.config)
    (load : t.loader.mode = .load → s.loader.mode = .load) : t.TableSafe := by
  obtain ⟨bound, good, empty, own, blank, records⟩ := table
  have entry (i) : t.entry i = s.entry i := by simp only [State.entry, entries]
  have ownSame : t.own = s.own := by simp only [State.own, State.conf, config]
  refine ⟨frames ▸ bound, ?_, fun m => frames ▸ empty (load m), fun i h => ?_, fun i => ?_, fun i => ?_⟩
  · rw [frames, ownSame]
    exact good
  · rw [entry]
    exact own i (h.imp (fun e => e.trans ownSame) load)
  · rw [entry]
    exact blank i
  · rw [entry]
    exact records i

theorem PeerRecord.Good.groups_nodup {r : PeerRecord} (good : r.Good) : (r.groups.map (·.index)).Nodup := by
  obtain ⟨-, -, -, -, -, -, -, -, -, -, -, -, groups, -⟩ := good
  exact groups

/-- Where the queue and the peer table are well formed, the ladder's own part is its listing, the group records and the
members. -/
theorem State.TableSafe.ladderSafe_iff {s : State} (table : s.TableSafe) : s.LadderSafe ↔
    LadderListed s.ladder.entries ∧ (s.conf.groups.map (·.index)).Nodup ∧ s.island.members.Nodup := by
  obtain ⟨-, good, -, -, -, records⟩ := table
  constructor
  · rintro ⟨bound, keys, sorted, groups, -, -, members⟩
    exact ⟨⟨bound, keys, sorted⟩, groups, members⟩
  · rintro ⟨⟨bound, keys, sorted⟩, groups, members⟩
    exact ⟨bound, keys, sorted, groups, fun i r some => (records i r some).groups_nodup,
      fun x mem => (good x mem).1.2.groups_nodup, members⟩

theorem State.membersIn_nodup (s : State) (sections : List Nat) : (s.membersIn sections).Nodup :=
  (List.nodup_finRange 8).filter _

/-- The members of a settled card are stations of a list without doubles (R41). -/
theorem State.Settled.members_nodup {s : State} (settled : s.Settled) : s.island.members.Nodup := by
  have resolved : s.resolve.island.members.Nodup := s.membersIn_nodup _
  rwa [settled.1] at resolved

/-- The ladder of a settled card is well formed, being listed from its sources (R126, R127). -/
theorem State.Settled.ladderSafe {s : State} (settled : s.Settled) (table : s.TableSafe)
    (groups : (s.conf.groups.map (·.index)).Nodup) : s.LadderSafe := by
  refine table.ladderSafe_iff.2 ⟨?_, groups, settled.members_nodup⟩
  rw [settled.2.1]
  exact State.ladderOf_listed groups (fun i r some => (table.2.2.2.2.2 i r some).groups_nodup) settled.members_nodup

/-- A card whose frames, entries, configuration, members and ladder entries stand. -/
theorem State.KeepsTables.of_stands {s t : State} (frames : t.rx.frames = s.rx.frames)
    (entries : t.peers.entries = s.peers.entries) (config : t.loader.config = s.loader.config)
    (load : t.loader.mode = .load → s.loader.mode = .load) (members : t.island.members = s.island.members)
    (ladder : t.ladder.entries = s.ladder.entries) : s.KeepsTables t := by
  refine ⟨fun table => table.congr frames entries config load, fun table safe => ?_⟩
  rw [(table.congr frames entries config load).ladderSafe_iff, State.conf, config, members, ladder]
  exact table.ladderSafe_iff.1 safe

/-- A settled card whose frames, entries and configuration stand. -/
theorem State.KeepsTables.of_settled {s t : State} (settled : t.Settled) (frames : t.rx.frames = s.rx.frames)
    (entries : t.peers.entries = s.peers.entries) (config : t.loader.config = s.loader.config)
    (load : t.loader.mode = .load → s.loader.mode = .load) : s.KeepsTables t := by
  refine ⟨fun table => table.congr frames entries config load, fun table safe => ?_⟩
  refine settled.ladderSafe (table.congr frames entries config load) ?_
  rw [State.conf, config]
  exact (table.ladderSafe_iff.1 safe).2.1

/-- An operation that touches none of the blocks concerned. -/
theorem State.keepsBut.keepsTables {s t : State} {bs : List Block} (h : s.keepsBut t bs)
    (apart : ∀ b ∈ [Block.rx, .peers, .loader, .island, .ladder], b ∉ bs) : s.KeepsTables t := by
  have rx : t.rx = s.rx := h .rx (apart _ (by decide))
  have peers : t.peers = s.peers := h .peers (apart _ (by decide))
  have loader : t.loader = s.loader := h .loader (apart _ (by decide))
  have island : t.island = s.island := h .island (apart _ (by decide))
  have ladder : t.ladder = s.ladder := h .ladder (apart _ (by decide))
  exact .of_stands (by rw [rx]) (by rw [peers]) (by rw [loader]) (by rw [loader]; exact id) (by rw [island])
    (by rw [ladder])

/-- The blocks that an event may reach before its end without touching the queue, the peer table or the loader. -/
def eventBlocks : List Block :=
  [.pins, .laneA, .laneB, .composer, .island, .metering, .regulator, .seq, .duty, .groups, .ladder, .admission, .alarms]

/-- The end of an event that has left the queue, the peer table and the loader as they were. -/
theorem State.keepsBut.finish_keepsTables {s t : State} (h : s.keepsBut t eventBlocks) : s.KeepsTables t.finish := by
  have rx : t.finish.rx = s.rx := t.finish_rx.trans (h .rx (by decide))
  have peers : t.finish.peers = s.peers := t.finish_peers.trans (h .peers (by decide))
  have loader : t.finish.loader = s.loader := t.finish_loader.trans (h .loader (by decide))
  exact .of_settled t.finish_settled (by rw [rx]) (by rw [peers]) (by rw [loader]) (by rw [loader]; exact id)

/-! ### Taking a command -/

/-- Whatever state a command leaves, it keeps the tables of `s`. -/
def State.KeepsTablesIn (s : State) (r : Result) : Prop := ∀ t, r = .next t → s.KeepsTables t

theorem State.KeepsTables.next {s t : State} (h : s.KeepsTables t) : s.KeepsTablesIn (.next t) := by
  rintro _ ⟨⟩
  exact h

theorem whileAwake_keepsTables {s : State} {f : State → State} (h : s.Awake → s.KeepsTables (f s)) :
    s.KeepsTablesIn (whileAwake s f) := by
  refine State.KeepsTables.next ?_
  split
  · next awake => exact h (by simpa [State.awake, State.mode, State.Awake] using awake)
  · exact .refl s

theorem onExpiry_keepsTables {s : State} {t : Timer} {f : State → State} (h : ∀ u : State, u.Awake → u.KeepsTables (f u)) :
    s.KeepsTablesIn (onExpiry s t f) := by
  unfold onExpiry
  split
  · exact (State.KeepsTables.refl s).next
  · next d =>
    refine State.KeepsTables.next ?_
    split
    · next awake =>
      exact ((s.advanceTo_frame d).keepsTables (by decide)).trans
        (h _ (by simpa [State.awake, State.mode, State.Awake] using awake))
    · exact .refl s

/-! ### Entering LOAD and LISTEN -/

/-- Entering LOAD empties the queue, the peer table and the ladder (R165). -/
theorem State.enterLoad_keepsTables (s : State) : s.KeepsTables s.enterLoad := by
  have entry (i) : s.enterLoad.entry i = PeerEntry.empty 0 0 := by
    simp [State.enterLoad, State.entry, State.reset]
  have table : s.enterLoad.TableSafe := by
    refine ⟨Nat.zero_le 8, by simp [State.enterLoad, State.reset], fun _ => rfl, fun i _ => by rw [entry]; rfl,
      fun i _ => by rw [entry]; exact ⟨rfl, rfl, rfl, rfl, rfl, rfl, rfl, rfl⟩, fun i r some => ?_⟩
    rw [entry] at some
    exact absurd some (by simp [PeerEntry.empty])
  exact ⟨fun _ => table, fun _ _ => table.ladderSafe_iff.2 ⟨⟨Nat.zero_le 48, .nil, .nil⟩, .nil, .nil⟩⟩

/-- A configuration holds no group index twice: an image that lists one twice is faulty (R163, R164). -/
theorem formConfiguration_groups_nodup (st : StrapPins) (im : List Word) :
    ((formConfiguration st im).groups.map (·.index)).Nodup := by
  unfold formConfiguration
  split
  · next good =>
    have fields := imageFieldsGood_of_noFault good
    simp only [imageFieldsGood, Bool.and_eq_true, within_iff, List.all_eq_true] at fields
    obtain ⟨⟨-, slots⟩, -⟩ := fields
    have nodup : ((usedSlots im).map fun x => x.1 / 4096).Nodup := by
      by_contra double
      rw [firstFaultOf] at good
      simp only [if_pos double] at good
      split_ifs at good
    show (((usedSlots im).map slotRecord).map (·.index)).Nodup
    rw [List.map_map]
    refine List.pairwise_map.2 ((List.pairwise_map.1 nodup).imp_of_mem fun {a b} ha hb ne same => ne ?_)
    have low := (slots a ha).1.1.2
    have high := (slots b hb).1.1.2
    have value := congrArg Fin.val same
    simp only [Function.comp_apply, slotRecord, Fin.ofNat] at value
    omega
  · exact .nil

theorem State.startChannels_frame (s : State) :
    s.keepsBut ((List.finRange 6).foldl State.startChannel s) [.groups] := by
  refine State.keepsBut.foldl (fun u i => ?_) _ s
  unfold State.startChannel
  split
  · exact .refl _ _
  · exact u.setChannel_frame i _

/-- Entering LISTEN forms the configuration while the queue and the peer table are empty (R23, R38, R166). -/
theorem State.enterListen_keepsTables {s : State} (load : s.loader.mode = .load) (straps : StrapPins)
    (image : List Word) : s.KeepsTables (s.enterListen straps image) := by
  obtain ⟨u, ends, rx, peers, loader⟩ : ∃ u : State, s.enterListen straps image = u.finish ∧ u.rx = s.rx
      ∧ u.peers = s.peers ∧ u.loader.config = some (formConfiguration straps image) := by
    refine ⟨_, rfl, ?_, ?_, ?_⟩
    · rw [State.setSetState_rx]
      exact State.startChannels_frame _ .rx (by decide)
    · rw [State.setSetState_peers]
      exact State.startChannels_frame _ .peers (by decide)
    · rw [State.setSetState_loader]
      exact congrArg Loader.config (State.startChannels_frame _ .loader (by decide))
  have conf : u.finish.conf = formConfiguration straps image := by simp [State.conf, loader]
  have entry (i) : u.finish.entry i = s.entry i := by simp [State.entry, peers]
  have table (safe : s.TableSafe) : u.finish.TableSafe := by
    obtain ⟨-, -, queue, empty, blank, records⟩ := safe
    have frames : u.finish.rx.frames = [] := by rw [u.finish_rx, rx, queue load]
    refine ⟨by rw [frames]; simp, by rw [frames]; simp, fun _ => frames, fun i _ => ?_, fun i => ?_, fun i => ?_⟩
    · rw [entry]
      exact empty i (.inr load)
    · rw [entry]
      exact blank i
    · rw [entry]
      exact records i
  rw [ends]
  refine ⟨table, fun safe _ => u.finish_settled.ladderSafe (table safe) ?_⟩
  rw [conf]
  exact formConfiguration_groups_nodup straps image

/-! ### Entering RUN and MUTE -/

theorem State.seeLanes_frame (s : State) : s.keepsBut s.seeLanes [.laneA, .laneB] :=
  fun b hb => by cases b <;> first | rfl | exact absurd (by decide) hb

/-- The timers of RUN, started at the entry to it (R168). -/
def State.startRun (s : State) : State :=
  { s with
    loader := { s.loader with mode := .run, listenTimer := none }
    composer := { s.composer with frameTimer := s.after framePeriod }
    duty := { s.duty with evaluation := s.after evaluationPeriod }
    ladder := { s.ladder with restoreTimer := s.after restorePeriod }
    admission := { s.admission with retest := s.after retestPeriod } }

/-- A step of an event that is made or not. -/
theorem State.keepsBut.ite {s t u : State} {bs : List Block} {c : Prop} [Decidable c] (h : s.keepsBut t bs)
    (k : t.keepsBut u bs) : s.keepsBut (if c then u else t) bs := by
  split
  · exact h.trans k
  · exact h

/-- Past the start of its timers, the entry to RUN composes a frame and takes the REQUEST levels (R168). -/
theorem State.enterRun_within (s : State) : ∃ u : State, s.enterRun = u.finish ∧ s.startRun.keepsBut u eventBlocks := by
  have requests (v : State) : v.keepsBut (v.request .periodic) eventBlocks := (v.request_frame _).mono (by decide)
  have resolves (v : State) : v.keepsBut v.resolve eventBlocks := v.resolve_frame.mono (by decide)
  have flushes (v : State) : v.keepsBut v.flush eventBlocks := v.flush_frame.mono (by decide)
  have takes (v : State) (n : Fin 2) : v.keepsBut (v.takeRequest n) eventBlocks := (v.takeRequest_frame n).mono (by decide)
  refine ⟨_, rfl, .ite (.ite ?_ (takes _ 0)) (takes _ 1)⟩
  exact (((requests s.startRun).trans (resolves _)).trans (flushes _)).trans (resolves _)

/-- Entering RUN moves the card mode alone of what the tables depend on (R168). -/
theorem State.enterRun_keepsTables (s : State) : s.KeepsTables s.enterRun := by
  obtain ⟨u, ends, within⟩ := s.enterRun_within
  have loader : u.finish.loader = s.startRun.loader := u.finish_loader.trans (within .loader (by decide))
  rw [ends]
  refine .of_settled u.finish_settled ?_ ?_ (by rw [loader]; rfl) (fun load => ?_)
  · rw [u.finish_rx, within .rx (by decide)]
    rfl
  · rw [u.finish_peers, within .peers (by decide)]
    rfl
  · have run : s.startRun.loader.mode = .run := rfl
    rw [loader, run] at load
    contradiction

/-- Entering MUTE moves the card mode alone of what the tables depend on (R169). -/
theorem State.enterMute_keepsTables (s : State) : s.KeepsTables s.enterMute :=
  .of_settled (State.finish_settled _) (by simp [State.enterMute]) (by simp [State.enterMute])
    (by simp [State.enterMute]) (by simp [State.enterMute])

end Sys2Proof.Machine
end

section
/-! The queue, the peer table and the ladder through every command: the link, the peers and the ties. -/

namespace Sys2Proof.Machine

/-! ### Plain updates -/

theorem State.advanceTo_keepsTables (s : State) (d : Nat) : s.KeepsTables (s.advanceTo d) :=
  (s.advanceTo_frame d).keepsTables (by decide)

theorem State.setLane_keepsTables (s : State) (l : LaneId) (x : LaneIf) : s.KeepsTables (s.setLane l x) :=
  (s.setLane_frame l x).keepsTables (by decide)

theorem State.syncAlarms_keepsTables (s : State) : s.KeepsTables s.syncAlarms :=
  s.syncAlarms_frame.keepsTables (by decide)

theorem State.setLane_syncAlarms_keepsTables (s : State) (l : LaneId) (x : LaneIf) :
    s.KeepsTables (s.setLane l x).syncAlarms :=
  (s.setLane_keepsTables l x).trans (State.syncAlarms_keepsTables _)

theorem State.finish_keepsTables (s : State) : s.KeepsTables s.finish :=
  State.keepsBut.finish_keepsTables (.refl s _)

theorem State.spread_finish_keepsTables (s : State) : s.KeepsTables s.spread.finish :=
  (s.spread_frame.mono (by decide)).finish_keepsTables

/-- What the tables' own well-formedness gives may be used in keeping them. -/
theorem State.KeepsTables.of_tableSafe {s t : State} (h : s.TableSafe → s.KeepsTables t) : s.KeepsTables t :=
  ⟨fun table => (h table).1 table, fun table => (h table).2 table⟩

/-! ### Receptions (R8, R9, R21) -/

/-- A good peer frame that finds room joins the queue (R21). -/
theorem State.queueFrame_keepsTables {s : State} {f : Frame} (l : LaneId) (good : f.Good) (peer : f.station ≠ s.own)
    (past : s.loader.mode ≠ .load) : s.KeepsTables (s.queueFrame l f) := by
  unfold State.queueFrame
  split
  · next room =>
    have table (safe : s.TableSafe) : State.TableSafe { s with rx := { s.rx with frames := s.rx.frames ++ [(l, f)] } } := by
      obtain ⟨-, frames, -, rest⟩ := safe
      refine ⟨by simpa using room, fun x mem => ?_, fun load => absurd load past, rest⟩
      rcases List.mem_append.1 mem with mem | mem
      · exact frames x mem
      · rw [List.mem_singleton.1 mem]
        exact ⟨good, peer⟩
    exact ⟨table, fun safe ladder => (table safe).ladderSafe_iff.2 (safe.ladderSafe_iff.1 ladder)⟩
  · exact .of_stands rfl rfl rfl id rfl rfl

theorem State.takeDuplicate_keepsTables (s : State) : s.KeepsTables s.takeDuplicate := by
  unfold State.takeDuplicate
  split
  · exact s.enterMute_keepsTables
  · exact (s.raise_frame _).keepsTables (by decide)
  · exact .refl s
  · exact .refl s

theorem State.takeGoodFrame_keepsTables {s : State} {f : Frame} (l : LaneId) (inSend : Bool) (good : f.Good)
    (past : s.loader.mode ≠ .load) : s.KeepsTables (s.takeGoodFrame l f inSend) := by
  unfold State.takeGoodFrame
  dsimp only
  refine (s.setLane_keepsTables l { s.lane l with goodFrames := bump (s.lane l).goodFrames }).trans ?_
  have mode := past
  rw [← s.setLane_loader l { s.lane l with goodFrames := bump (s.lane l).goodFrames }] at mode
  generalize s.setLane l { s.lane l with goodFrames := bump (s.lane l).goodFrames } = u at mode
  split
  · split
    · exact .refl u
    · exact u.takeDuplicate_keepsTables
  · next peer =>
    have loader : (u.hearPeer l).loader = u.loader := u.hearPeer_frame l .loader (by decide)
    refine ((u.hearPeer_frame l).keepsTables (by decide)).trans (State.queueFrame_keepsTables l good ?_ (by rwa [loader]))
    rwa [State.own, State.conf, loader]

theorem execReceptionEnd_keepsTables (l : LaneId) (rx : Reception) (s : State) :
    s.KeepsTablesIn (execReceptionEnd l rx s) := by
  refine whileAwake_keepsTables fun awake => ?_
  dsimp only
  split
  · exact .refl s
  · split
    · exact s.setLane_keepsTables l _
    · refine (s.setLane_keepsTables l ((s.lane l).endReception s.now)).trans ?_
      split
      · exact State.setLane_keepsTables _ l _
      · next parsed =>
        refine (State.takeGoodFrame_keepsTables l _ (parseFrame_spec parsed).1 ?_).trans (State.syncAlarms_keepsTables _)
        rw [State.setLane_loader]
        exact awake.2

/-! ### The lanes' other commands -/

theorem execReceptionBegins_keepsTables (l : LaneId) (s : State) : s.KeepsTablesIn (execReceptionBegins l s) := by
  refine whileAwake_keepsTables fun _ => ?_
  split
  · exact .refl s
  · split
    · exact .refl s
    · exact (s.advanceTo_keepsTables _).trans (State.setLane_keepsTables _ l _)

theorem execSendStart_keepsTables (l : LaneId) (s : State) : s.KeepsTablesIn (execSendStart l s) := by
  refine whileAwake_keepsTables fun _ => ?_
  split
  · split
    · exact .refl s
    · exact (s.advanceTo_keepsTables _).trans (State.setLane_keepsTables _ l _)
  · exact .refl s

theorem execFrameComplete_keepsTables (l : LaneId) (s : State) : s.KeepsTablesIn (execFrameComplete l s) := by
  refine whileAwake_keepsTables fun _ => ?_
  split
  · exact .refl s
  · exact (s.advanceTo_keepsTables _).trans (State.setLane_keepsTables _ l _)

theorem execCollision_keepsTables (l : LaneId) (s : State) : s.KeepsTablesIn (execCollision l s) := by
  refine whileAwake_keepsTables fun _ => ?_
  split
  · exact s.setLane_keepsTables l _
  · exact .refl s

theorem execStuckEntry_keepsTables (l : LaneId) (began : Bool) (s : State) : s.KeepsTablesIn (execStuckEntry l began s) := by
  refine whileAwake_keepsTables fun _ => ?_
  dsimp only
  split
  · exact .refl s
  · exact s.setLane_syncAlarms_keepsTables l _

theorem execDriverTestLaneIdle_keepsTables (l : LaneId) (s : State) : s.KeepsTablesIn (execDriverTestLaneIdle l s) := by
  refine whileAwake_keepsTables fun _ => ?_
  dsimp only
  split
  · exact s.setLane_syncAlarms_keepsTables l _
  · exact .refl s

theorem execIsolatedLaneIdle_keepsTables (l : LaneId) (s : State) : s.KeepsTablesIn (execIsolatedLaneIdle l s) := by
  refine whileAwake_keepsTables fun _ => ?_
  dsimp only
  split
  · exact s.setLane_keepsTables l _
  · exact .refl s

theorem execStuckEnd_keepsTables (l : LaneId) (s : State) : s.KeepsTablesIn (execStuckEnd l s) := by
  refine whileAwake_keepsTables fun _ => ?_
  dsimp only
  split
  · exact s.setLane_syncAlarms_keepsTables l _
  · exact .refl s

theorem execJamEnd_keepsTables (l : LaneId) (s : State) : s.KeepsTablesIn (execJamEnd l s) :=
  onExpiry_keepsTables fun u _ => u.setLane_keepsTables l _

theorem execBackoffExpiry_keepsTables (l : LaneId) (s : State) : s.KeepsTablesIn (execBackoffExpiry l s) :=
  onExpiry_keepsTables fun u _ => u.setLane_keepsTables l _

theorem execDriverTestExpiry_keepsTables (l : LaneId) (s : State) : s.KeepsTablesIn (execDriverTestExpiry l s) :=
  onExpiry_keepsTables fun u _ => u.setLane_keepsTables l _

theorem execErrorWindowExpiry_keepsTables (l : LaneId) (s : State) : s.KeepsTablesIn (execErrorWindowExpiry l s) :=
  onExpiry_keepsTables fun u _ => u.setLane_syncAlarms_keepsTables l _

theorem execSilenceTimerExpiry_keepsTables (l : LaneId) (s : State) : s.KeepsTablesIn (execSilenceTimerExpiry l s) :=
  onExpiry_keepsTables fun u _ => u.setLane_syncAlarms_keepsTables l _

theorem Composer.set_keepsTables (s : State) (c : Composer) : s.KeepsTables { s with composer := c } :=
  .of_stands rfl rfl rfl id rfl rfl

theorem execFrameTimerExpiry_keepsTables (s : State) : s.KeepsTablesIn (execFrameTimerExpiry s) :=
  onExpiry_keepsTables fun u _ =>
    (Composer.set_keepsTables u _).trans ((State.request_frame _ .periodic).mono (by decide)).finish_keepsTables

theorem execSpacingTimerExpiry_keepsTables (s : State) : s.KeepsTablesIn (execSpacingTimerExpiry s) :=
  onExpiry_keepsTables fun u _ => (Composer.set_keepsTables u _).trans (State.finish_keepsTables _)

/-! ### The intake and the entries' timers (R22 to R34) -/

/-- An entry that may stand at a station: EMPTY where it is the own one and in LOAD, blank where it is EMPTY, and with a
record of a good frame (R24, R27). -/
def State.Fits (s : State) (i : Station) (e : PeerEntry) : Prop :=
  (i = s.own ∨ s.loader.mode = .load → e.state = .empty) ∧ (e.state = .empty → e.Blank)
    ∧ ∀ r, e.record = some r → r.Good

theorem State.TableSafe.fits {s : State} (table : s.TableSafe) (i : Station) : s.Fits i (s.entry i) := by
  obtain ⟨-, -, -, own, blank, records⟩ := table
  exact ⟨own i, blank i, records i⟩

theorem State.setEntry_keepsTables {s : State} {i : Station} {e : PeerEntry} (fits : s.TableSafe → s.Fits i e) :
    s.KeepsTables (s.setEntry i e) := by
  have table (safe : s.TableSafe) : (s.setEntry i e).TableSafe := by
    have all (j) : s.Fits j ((s.setEntry i e).entry j) := by
      by_cases same : i = j
      · rw [← same, State.entry_setEntry]
        exact fits safe
      · rw [State.entry_setEntry_ne s e same]
        exact safe.fits j
    obtain ⟨bound, frames, load, -⟩ := safe
    exact ⟨bound, frames, load, fun j => (all j).1, fun j => (all j).2.1, fun j => (all j).2.2⟩
  exact ⟨table, fun safe ladder => (table safe).ladderSafe_iff.2 (safe.ladderSafe_iff.1 ladder)⟩

/-- An entry past EMPTY may change in all but its state and its record. -/
theorem State.Fits.of_stands {s : State} {i : Station} {e x : PeerEntry} (fits : s.Fits i e) (some : e.state ≠ .empty)
    (state : x.state = e.state) (record : x.record = e.record) : s.Fits i x := by
  obtain ⟨own, -, good⟩ := fits
  refine ⟨fun h => state.trans (own h), fun empty => absurd (state.symm.trans empty) some, fun r h => ?_⟩
  exact good r (record ▸ h)

/-- An entry that has become EMPTY fits everywhere (R24). -/
theorem State.fits_empty (s : State) (i : Station) (late dual : Nat) : s.Fits i (PeerEntry.empty late dual) :=
  ⟨fun _ => rfl, fun _ => ⟨rfl, rfl, rfl, rfl, rfl, rfl, rfl, rfl⟩, by simp [PeerEntry.empty]⟩

@[simp] theorem PeerEntry.hear_state (e : PeerEntry) (l : LaneId) (now : Nat) : (e.hear l now).state = e.state := by
  cases l <;> rfl

@[simp] theorem PeerEntry.hear_record (e : PeerEntry) (l : LaneId) (now : Nat) : (e.hear l now).record = e.record := by
  cases l <;> rfl

/-- An EMPTY entry accepts every frame (R26). -/
theorem verdict_of_empty {e : PeerEntry} (empty : e.state = .empty) (n : Nat) : verdict e n = .accepted := by
  simp [verdict, empty]

/-- An accepted frame leaves no entry EMPTY (R28, R29). -/
theorem PeerEntry.accept_state_ne (e : PeerEntry) (f : Frame) (now : Nat) : (e.accept f now).state ≠ .empty := by
  show (stateAfter e now).1 ≠ .empty
  unfold stateAfter
  split
  · simp
  · split
    · split <;> simp
    · simp
  · simp
  · simp
  · simp

/-- The taking up of an accepted frame, with its trip notice, up to the end of the event (R25 to R30). -/
def State.takeUp (s : State) (n : Option TripNotice) : State := n.elim s.spread s.spread.takeTripNotice

@[simp] theorem State.takeUp_none (s : State) : s.takeUp none = s.spread := rfl

@[simp] theorem State.takeUp_some (s : State) (n : TripNotice) : s.takeUp (some n) = s.spread.takeTripNotice n := rfl

theorem State.takeUp_within (s : State) (n : Option TripNotice) :
    s.keepsBut (s.takeUp n) eventBlocks := by
  have spreads : s.keepsBut s.spread eventBlocks := s.spread_frame.mono (by decide)
  cases n with
  | none => exact spreads
  | some n => exact spreads.trans ((State.takeTripNotice_frame _ n).mono (by decide))

/-- The intake of an accepted frame (R27 to R31). -/
theorem State.takeIn_accepted {s : State} {l : LaneId} {f : Frame}
    (accepted : verdict (s.entry f.station) f.number = .accepted) :
    s.takeIn l f = ((s.setEntry f.station (((s.entry f.station).accept f s.now).hear l s.now)).takeUp
      (tripNoticeOf f.station (s.entry f.station) f)).finish := by
  rcases notice : tripNoticeOf f.station (s.entry f.station) f with _ | n
  · simp only [State.takeIn, accepted, notice, State.takeUp_none]
  · simp only [State.takeIn, accepted, notice, State.takeUp_some]

/-- The card with an entry replaced and the card-wide counters of discarded frames set (R37). -/
def State.counted (s : State) (i : Station) (x : PeerEntry) (late dual : Nat) : State :=
  let u := s.setEntry i x
  { u with peers := { u.peers with lateFrames := late, dualCopies := dual } }

/-- The intake of a dual copy (R26, R31, R37). -/
theorem State.takeIn_dualCopy {s : State} {l : LaneId} {f : Frame}
    (dual : verdict (s.entry f.station) f.number = .dualCopy) : s.takeIn l f = s.counted f.station
      (PeerEntry.hear { s.entry f.station with dualCopies := bump (s.entry f.station).dualCopies } l s.now)
      s.peers.lateFrames (bump s.peers.dualCopies) := by
  simp only [State.takeIn, dual]
  rfl

/-- The intake of a late frame (R26, R31, R37). -/
theorem State.takeIn_lateFrame {s : State} {l : LaneId} {f : Frame}
    (late : verdict (s.entry f.station) f.number = .lateFrame) : s.takeIn l f = s.counted f.station
      (PeerEntry.hear { s.entry f.station with lateFrames := bump (s.entry f.station).lateFrames } l s.now)
      (bump s.peers.lateFrames) s.peers.dualCopies := by
  simp only [State.takeIn, late]
  rfl

/-- The intake of a good frame of a peer (R26 to R31). -/
theorem State.takeIn_keepsTables {s : State} {f : Frame} (l : LaneId) (good : f.Good) (peer : f.station ≠ s.own)
    (past : s.loader.mode ≠ .load) : s.KeepsTables (s.takeIn l f) := by
  have heard (x : PeerEntry) (late dual : Nat) (discarded : verdict (s.entry f.station) f.number ≠ .accepted)
      (state : x.state = (s.entry f.station).state) (record : x.record = (s.entry f.station).record) :
      s.KeepsTables (s.counted f.station x late dual) :=
    .trans (State.setEntry_keepsTables fun safe =>
      (safe.fits _).of_stands (fun empty => discarded (verdict_of_empty empty _)) state record)
      (.of_stands rfl rfl rfl id rfl rfl)
  cases decided : verdict (s.entry f.station) f.number with
  | accepted =>
    rw [State.takeIn_accepted decided]
    refine .trans (State.setEntry_keepsTables fun _ => ⟨fun own => ?_, fun empty => ?_, fun r some => ?_⟩)
      (State.takeUp_within _ _).finish_keepsTables
    · exact absurd own (by simp [peer, past])
    · rw [PeerEntry.hear_state] at empty
      exact absurd empty (PeerEntry.accept_state_ne _ f s.now)
    · rw [PeerEntry.hear_record] at some
      obtain rfl : f.content = r := Option.some.inj some
      exact good.2
  | dualCopy =>
    rw [State.takeIn_dualCopy decided]
    exact heard _ _ _ (by simp [decided]) (PeerEntry.hear_state _ _ _) (PeerEntry.hear_record _ _ _)
  | lateFrame =>
    rw [State.takeIn_lateFrame decided]
    exact heard _ _ _ (by simp [decided]) (PeerEntry.hear_state _ _ _) (PeerEntry.hear_record _ _ _)

/-- The card at the instant of an intake, the oldest frame removed from its queue (R22). -/
def State.dequeued (s : State) (rest : List (LaneId × Frame)) : State :=
  let u := s.advanceTo s.rx.nextIntake
  { u with rx := { u.rx with frames := rest, lastIntake := some u.now } }

theorem State.dequeued_keepsTables {s : State} {x : LaneId × Frame} {rest : List (LaneId × Frame)}
    (queued : s.rx.frames = x :: rest) : s.KeepsTables (s.dequeued rest) := by
  have table (safe : s.TableSafe) : (s.dequeued rest).TableSafe := by
    obtain ⟨bound, frames, load, others⟩ := safe
    rw [queued] at bound frames load
    exact ⟨(Nat.le_succ _).trans bound, fun y mem => frames y (List.mem_cons_of_mem x mem),
      fun m => absurd (load m) (by simp), others⟩
  exact ⟨table, fun safe ladder => (table safe).ladderSafe_iff.2 (safe.ladderSafe_iff.1 ladder)⟩

theorem execIntake_eq {s : State} {l : LaneId} {f : Frame} {rest : List (LaneId × Frame)} (awake : s.Awake)
    (queued : s.rx.frames = (l, f) :: rest) : execIntake s = .next ((s.dequeued rest).takeIn l f) := by
  unfold execIntake
  rw [whileAwake_of awake]
  simp only [queued]
  rfl

theorem execIntake_keepsTables (s : State) : s.KeepsTablesIn (execIntake s) := by
  by_cases awake : s.Awake
  · rcases queued : s.rx.frames with _ | ⟨⟨l, f⟩, rest⟩
    · unfold execIntake
      rw [whileAwake_of awake]
      simp only [queued]
      exact (State.KeepsTables.refl s).next
    · rw [execIntake_eq awake queued]
      refine (State.KeepsTables.of_tableSafe fun safe => ?_).next
      obtain ⟨good, peer⟩ := safe.2.1 (l, f) (by simp [queued])
      exact (State.dequeued_keepsTables queued).trans (State.takeIn_keepsTables l good peer awake.2)
  · exact whileAwake_keepsTables fun h => absurd h awake

theorem execEntryTimer350_keepsTables (i : Station) (s : State) : s.KeepsTablesIn (execEntryTimer350 i s) := by
  unfold execEntryTimer350
  split
  · next live =>
    rcases timer : (s.entry i).timerFrom with _ | u
    · exact (State.KeepsTables.refl s).next
    · refine State.KeepsTables.next ?_
      split
      · refine (s.advanceTo_keepsTables _).trans (.trans (State.setEntry_keepsTables fun safe => ?_)
          (State.spread_finish_keepsTables _))
        obtain ⟨own, -, good⟩ := safe.fits i
        exact ⟨fun h => absurd (live.symm.trans (own h)) (by simp), by simp, good⟩
      · exact .refl s
  · exact (State.KeepsTables.refl s).next

/-- What the 1,000 ms expiry makes of an entry fits where the entry did (R24, R33, R34). -/
theorem State.Fits.expire {s : State} {i : Station} {e : PeerEntry} (fits : s.Fits i e) : s.Fits i e.expire := by
  unfold PeerEntry.expire PeerEntry.lose
  split
  · next stale =>
    obtain ⟨own, -, good⟩ := fits
    split
    · exact ⟨fun h => absurd (stale.symm.trans (own h)) (by simp), by simp, good⟩
    · exact s.fits_empty i _ _
  · exact s.fits_empty i _ _
  · exact fits
  · exact fits
  · exact fits

theorem execEntryTimer1000_keepsTables (i : Station) (s : State) : s.KeepsTablesIn (execEntryTimer1000 i s) :=
  onExpiry_keepsTables fun _ _ => .trans (State.setEntry_keepsTables fun safe => (safe.fits i).expire)
    (State.spread_finish_keepsTables _)

/-- Without one of its lanes heard an entry still fits (R31). -/
theorem State.Fits.unhear {s : State} {i : Station} {e : PeerEntry} (fits : s.Fits i e) (l : LaneId) :
    s.Fits i (e.unhear l) := by
  obtain ⟨own, blank, good⟩ := fits
  cases l with
  | a =>
    refine ⟨own, fun empty => ?_, good⟩
    obtain ⟨number, time, record, previous, count, timer, -, other⟩ := blank empty
    exact ⟨number, time, record, previous, count, timer, rfl, other⟩
  | b =>
    refine ⟨own, fun empty => ?_, good⟩
    obtain ⟨number, time, record, previous, count, timer, other, -⟩ := blank empty
    exact ⟨number, time, record, previous, count, timer, other, rfl⟩

theorem execLanesHeardExpiry_keepsTables (i : Station) (l : LaneId) (s : State) :
    s.KeepsTablesIn (execLanesHeardExpiry i l s) :=
  onExpiry_keepsTables fun _ _ => State.setEntry_keepsTables fun safe => (safe.fits i).unhear l

/-! ### The ties -/

theorem execTieInputChange_keepsTables (tie : Fin 3) (closed : Bool) (s : State) :
    s.KeepsTablesIn (execTieInputChange tie closed s) := by
  unfold execTieInputChange
  split
  · exact (State.KeepsTables.refl s).next
  · refine State.KeepsTables.next ?_
    dsimp only
    split
    · split <;> exact .of_stands rfl rfl rfl id rfl rfl
    · exact .of_stands rfl rfl rfl id rfl rfl

theorem execTieFilterExpiry_keepsTables (tie : Fin 3) (s : State) : s.KeepsTablesIn (execTieFilterExpiry tie s) :=
  onExpiry_keepsTables fun u _ =>
    let closed := u.island.tieView.set tie u.pins.ties[tie]
    .trans (t := { u.setFilter tie none with island := { (u.setFilter tie none).island with tieView := closed } })
      (.of_stands rfl rfl rfl id rfl rfl) (State.spread_finish_keepsTables _)

theorem execReturnTimerExpiry_keepsTables (s : State) : s.KeepsTablesIn (execReturnTimerExpiry s) :=
  onExpiry_keepsTables fun u _ => .of_settled (State.settle_settled _) (by simp) (by simp) (by simp) (by simp)

end Sys2Proof.Machine
end

section
/-! The queue, the peer table and the ladder through every command, continued: the commands that touch no more of them than
the ladder's entries, which the end of their event lists anew; the service port; and the step. -/

namespace Sys2Proof.Machine

/-! ### The own set (Section 5) -/

theorem Pins.set_frame (s : State) (p : Pins) : s.keepsBut { s with pins := p } [.pins] :=
  fun b hb => by cases b <;> first | rfl | exact absurd (by decide) hb

theorem State.setSetState_within (s : State) (q : Sequencer) (st : SetState) :
    s.keepsBut (State.setSetState { s with seq := q } st) eventBlocks :=
  ((Sequencer.set_frame s q).mono (by decide)).trans ((State.setSetState_frame _ st).mono (by decide))

theorem State.trip_within (s : State) : s.keepsBut s.trip eventBlocks := by
  have flushes (u : State) : u.keepsBut u.flush.resolve eventBlocks :=
    (u.flush_frame.mono (by decide)).trans (u.flush.resolve_frame.mono (by decide))
  have notices (u : State) (n : TripNotice) : u.keepsBut (u.takeTripNotice n) eventBlocks :=
    (u.takeTripNotice_frame n).mono (by decide)
  exact ((s.setSetState_within _ .tripped).trans (flushes _)).trans (notices _ _)

/-- A BREAKER closing edge brings the set on the bus or finds it there (R83, R85). -/
theorem State.breakerCloses_cases (s : State) : s.breakerCloses = s.closeOnBus ∨ s.breakerCloses = s := by
  unfold State.breakerCloses
  split <;> simp

/-- A BREAKER opening edge trips the set, completes its opening, or finds it off the bus (R87, R94). -/
theorem State.breakerOpens_cases (s : State) :
    s.breakerOpens = s.trip ∨ s.breakerOpens = s.completeOpening ∨ s.breakerOpens = s := by
  unfold State.breakerOpens
  split <;> simp

/-- An AVAILABLE edge changes the set state, leaves STARTING, or does nothing (R80). -/
theorem State.availableRises_cases (s : State) :
    s.availableRises = s.setSetState .standby ∨ s.availableRises = s := by
  unfold State.availableRises
  split <;> simp

theorem State.availableFalls_cases (s : State) :
    s.availableFalls = s.setSetState .off ∨ s.availableFalls = s.leaveStarting .off ∨ s.availableFalls = s := by
  unfold State.availableFalls
  split <;> simp

/-- An UNLOAD rising edge is judged, noted in the sequencer, or not looked at (R88, R89). -/
theorem State.unloadRises_cases (s : State) :
    s.unloadRises = s.judgeUnload ∨ (∃ q, s.unloadRises = { s with seq := q }) ∨ s.unloadRises = s := by
  unfold State.unloadRises
  split
  · exact .inl rfl
  · exact .inr (.inl ⟨_, rfl⟩)
  · exact .inr (.inl ⟨_, rfl⟩)
  all_goals exact .inr (.inr rfl)

theorem State.breakerCloses_within (s : State) : s.keepsBut s.breakerCloses eventBlocks := by
  rcases s.breakerCloses_cases with e | e <;> rw [e]
  · exact s.closeOnBus_frame.mono (by decide)
  · exact .refl _ _

theorem State.breakerOpens_within (s : State) : s.keepsBut s.breakerOpens eventBlocks := by
  rcases s.breakerOpens_cases with e | e | e <;> rw [e]
  · exact s.trip_within
  · exact (s.issueStop_frame.mono (by decide)).trans (State.setSetState_within _ _ _)
  · exact .refl _ _

theorem State.availableRises_within (s : State) : s.keepsBut s.availableRises eventBlocks := by
  rcases s.availableRises_cases with e | e <;> rw [e]
  · exact s.setSetState_within s.seq _
  · exact .refl _ _

theorem State.availableFalls_within (s : State) : s.keepsBut s.availableFalls eventBlocks := by
  rcases s.availableFalls_cases with e | e | e <;> rw [e]
  · exact s.setSetState_within s.seq _
  · exact s.setSetState_within _ _
  · exact .refl _ _

theorem State.unloadRises_within (s : State) : s.keepsBut s.unloadRises eventBlocks := by
  rcases s.unloadRises_cases with e | ⟨q, e⟩ | e <;> rw [e]
  · exact s.judgeUnload_frame.mono (by decide)
  · exact (Sequencer.set_frame s q).mono (by decide)
  · exact .refl _ _

/-- An edge of an input, taken past LOAD (R75). -/
theorem State.edge_keepsTables {s : State} {p : Pins} {c : Prop} [Decidable c] {f : State → State}
    (within : ∀ u : State, u.keepsBut (f u) eventBlocks) :
    s.KeepsTables (if c then (f { s with pins := p }).finish else { s with pins := p }) := by
  split
  · exact ((Pins.set_frame s p).keepsTables (by decide)).trans (within _).finish_keepsTables
  · exact (Pins.set_frame s p).keepsTables (by decide)

theorem execBreakerCloseEdge_keepsTables (s : State) : s.KeepsTablesIn (execBreakerCloseEdge s) := by
  unfold execBreakerCloseEdge
  split
  · exact (State.KeepsTables.refl s).next
  · exact (State.edge_keepsTables State.breakerCloses_within).next

theorem execBreakerOpenEdge_keepsTables (s : State) : s.KeepsTablesIn (execBreakerOpenEdge s) := by
  unfold execBreakerOpenEdge
  split
  · exact (State.edge_keepsTables State.breakerOpens_within).next
  · exact (State.KeepsTables.refl s).next

theorem execRunningEdge_keepsTables (high : Bool) (s : State) : s.KeepsTablesIn (execRunningEdge high s) := by
  unfold execRunningEdge
  split
  · exact (State.KeepsTables.refl s).next
  · refine State.KeepsTables.next ?_
    dsimp only
    split <;> exact .of_stands rfl rfl rfl id rfl rfl

theorem execAvailableEdge_keepsTables (high : Bool) (s : State) : s.KeepsTablesIn (execAvailableEdge high s) := by
  have within (u : State) : u.keepsBut (if high then u.availableRises else u.availableFalls) eventBlocks := by
    split
    · exact u.availableRises_within
    · exact u.availableFalls_within
  unfold execAvailableEdge
  split
  · exact (State.KeepsTables.refl s).next
  · exact (State.edge_keepsTables within).next

theorem execUnloadEdge_keepsTables (high : Bool) (s : State) : s.KeepsTablesIn (execUnloadEdge high s) := by
  unfold execUnloadEdge
  split
  · exact (State.KeepsTables.refl s).next
  · exact (State.edge_keepsTables State.unloadRises_within).next

theorem execStartTimerExpiry_keepsTables (s : State) : s.KeepsTablesIn (execStartTimerExpiry s) :=
  onExpiry_keepsTables fun u _ =>
    ((u.setSetState_within _ .startFailed).trans ((State.raise_frame _ .startFail).mono (by decide))).finish_keepsTables

/-- A return to SHARING with its report (R92, R94). -/
theorem State.returnToSharing_keepsTables (s : State) (k : AlarmKind) :
    s.KeepsTables (s.returnToSharing.raise k).finish :=
  ((s.returnToSharing_frame.mono (by decide)).trans ((State.raise_frame _ k).mono (by decide))).finish_keepsTables

theorem State.endSetPulse_frame (s : State) (which : SetPulse) : s.keepsBut (s.endSetPulse which) [.seq] := by
  unfold State.endSetPulse
  split
  · split <;> exact Sequencer.set_frame s _
  · exact Sequencer.set_frame s _
  · exact Sequencer.set_frame s _

theorem execUnloadTimerExpiry_keepsTables (s : State) : s.KeepsTablesIn (execUnloadTimerExpiry s) :=
  onExpiry_keepsTables fun u _ => u.returnToSharing_keepsTables _

theorem execOpeningTimerExpiry_keepsTables (s : State) : s.KeepsTablesIn (execOpeningTimerExpiry s) :=
  onExpiry_keepsTables fun u _ => u.returnToSharing_keepsTables _

theorem execSetPulseEnd_keepsTables (which : SetPulse) (s : State) : s.KeepsTablesIn (execSetPulseEnd which s) :=
  onExpiry_keepsTables fun u _ => (u.endSetPulse_frame which).keepsTables (by decide)

/-! ### Metering, the duty logic and the consumers (Sections 4, 6 and 9) -/

theorem State.takeNotice_frame (s : State) (n : Option Notice) :
    s.keepsBut (s.takeNotice n) [.seq, .regulator, .composer, .island, .alarms] := by
  match n with
  | none => exact .refl _ _
  | some .loadingComplete => exact s.takeLoadingComplete_frame
  | some .unloaded => exact s.takeUnloaded_frame.mono (by decide)

theorem State.receiveRecord_frame (s : State) (r : MeterRecord) :
    s.keepsBut (s.receiveRecord r) [.metering, .composer, .island] :=
  fun b hb => by cases b <;> first | rfl | exact absurd (by decide) hb

theorem Regulator.set_frame (s : State) (r : Regulator) : s.keepsBut { s with regulator := r } [.regulator] :=
  fun b hb => by cases b <;> first | rfl | exact absurd (by decide) hb

/-- A delivered record stays within the own blocks (R57). -/
theorem State.deliver_keepsTables (s : State) (r : MeterRecord) : s.KeepsTables (s.deliver r) := by
  have notice (u : State) (reg : Regulator) (n : Option Notice) :
      u.keepsBut (State.takeNotice { u with regulator := reg } n) eventBlocks :=
    ((Regulator.set_frame u reg).mono (by decide)).trans ((State.takeNotice_frame _ n).mono (by decide))
  have stages (u : State) (isl : Island) : u.keepsBut (u.stepStages isl r) eventBlocks :=
    (u.stepStages_frame isl r).mono (by decide)
  have received : s.keepsBut (s.receiveRecord r) eventBlocks := (s.receiveRecord_frame r).mono (by decide)
  exact ((received.trans (notice _ _ _)).trans (stages _ _)).finish_keepsTables

theorem Metering.set_keepsTables (s : State) (m : Metering) : s.KeepsTables { s with metering := m } :=
  .of_stands rfl rfl rfl id rfl rfl

theorem execMeteringIntervalExpiry_keepsTables (m : Measurement) (s : State) :
    s.KeepsTablesIn (execMeteringIntervalExpiry m s) := by
  refine onExpiry_keepsTables fun u _ => ?_
  dsimp only
  split
  · split
    · exact Metering.set_keepsTables u _
    · exact (Metering.set_keepsTables u _).trans (State.deliver_keepsTables _ _)
  · exact Metering.set_keepsTables u _

theorem Duty.set_frame (s : State) (d : Duty) : s.keepsBut { s with duty := d } [.duty] :=
  fun b hb => by cases b <;> first | rfl | exact absurd (by decide) hb

/-- An evaluation stays within the own blocks (R97). -/
theorem State.evaluate_within (s : State) : s.keepsBut s.evaluate eventBlocks := by
  unfold State.evaluate
  dsimp only
  refine .ite (.ite (.ite ((Duty.set_frame s _).mono (by decide)) ?_) ?_) ?_
  · exact (State.abortUnload_frame _).mono (by decide)
  · exact (State.takeStart_frame _).mono (by decide)
  · exact (State.takeStop_frame _).mono (by decide)

theorem execEvaluation_keepsTables (s : State) : s.KeepsTablesIn (execEvaluation s) :=
  onExpiry_keepsTables fun u _ =>
    (((Duty.set_frame u _).mono (by decide)).trans (State.evaluate_within _)).finish_keepsTables

theorem execTripRecentTimerExpiry_keepsTables (s : State) : s.KeepsTablesIn (execTripRecentTimerExpiry s) :=
  onExpiry_keepsTables fun u _ => (Duty.set_frame u _).keepsTables (by decide)

theorem execRequestRising_keepsTables (n : Fin 2) (s : State) : s.KeepsTablesIn (execRequestRising n s) := by
  unfold execRequestRising
  split
  · exact (State.KeepsTables.refl s).next
  · exact (State.edge_keepsTables fun u => (u.takeRequest_frame n).mono (by decide)).next

theorem execRequestFalling_keepsTables (n : Fin 2) (s : State) : s.KeepsTablesIn (execRequestFalling n s) := by
  unfold execRequestFalling
  split
  · exact (State.edge_keepsTables fun u => (u.setClaimState_frame n _).mono (by decide)).next
  · exact (State.KeepsTables.refl s).next

theorem Admission.set_frame (s : State) (a : Admission) : s.keepsBut { s with admission := a } [.admission] :=
  fun b hb => by cases b <;> first | rfl | exact absurd (by decide) hb

theorem execRetestTimerExpiry_keepsTables (s : State) : s.KeepsTablesIn (execRetestTimerExpiry s) :=
  onExpiry_keepsTables fun u _ => (((Admission.set_frame u _).mono (by decide)).trans
    (.foldl (fun v n => (v.retestClaim_frame n).mono (by decide)) _ _)).finish_keepsTables

theorem State.waitedOut_within (s : State) (n : Fin 2) : s.keepsBut (s.waitedOut n) eventBlocks := by
  unfold State.waitedOut
  dsimp only
  have stops (c : Claim) : s.keepsBut (s.setClaim n c) eventBlocks := (s.setClaim_frame n c).mono (by decide)
  split
  · exact (stops _).trans ((State.toRefused_frame _ n).mono (by decide))
  · exact (stops _).trans ((State.setClaim_frame _ n _).mono (by decide))
  · exact stops _
  · exact stops _
  · exact stops _
  · exact stops _

theorem execWaitingTimerExpiry_keepsTables (n : Fin 2) (s : State) : s.KeepsTablesIn (execWaitingTimerExpiry n s) :=
  onExpiry_keepsTables fun u _ => (u.waitedOut_within n).finish_keepsTables

theorem execHoldTimerExpiry_keepsTables (n : Fin 2) (s : State) : s.KeepsTablesIn (execHoldTimerExpiry n s) :=
  onExpiry_keepsTables fun u _ => ((u.setClaimState_frame n _).mono (by decide)).finish_keepsTables

theorem execClaimWindowExpiry_keepsTables (n : Fin 2) (s : State) : s.KeepsTablesIn (execClaimWindowExpiry n s) :=
  onExpiry_keepsTables fun u _ => ((u.judgeWindow_frame n).mono (by decide)).finish_keepsTables

theorem execClaimAgeTick_keepsTables (n : Fin 2) (s : State) : s.KeepsTablesIn (execClaimAgeTick n s) :=
  onExpiry_keepsTables fun u _ => (u.setClaim_frame n _).keepsTables (by decide)

/-! ### Shed groups and the ladder (Sections 7 and 8) -/

theorem State.takeEdge_within (i : Fin 6) (closing : Bool) (s : State) : s.keepsBut (s.takeEdge i closing) eventBlocks := by
  have sets (u : State) (c : Channel) : u.keepsBut (u.setChannel i c) eventBlocks := (u.setChannel_frame i c).mono (by decide)
  unfold State.takeEdge
  split
  · exact .refl _ _
  · exact sets s _
  · dsimp only
    split
    · exact sets s _
    · exact ((sets s _).trans (sets _ _)).trans ((State.setGroupState_frame _ i _).mono (by decide))

theorem execFeedbackEdge_keepsTables (i : Fin 6) (closed : Bool) (s : State) :
    s.KeepsTablesIn (execFeedbackEdge i closed s) := by
  unfold execFeedbackEdge
  split
  · exact (State.KeepsTables.refl s).next
  · exact (State.edge_keepsTables (State.takeEdge_within i closed)).next

/-- A channel's own change, followed by a change of its group's state. -/
theorem State.setChannel_groupState_within (s : State) (i : Fin 6) (c : Channel) (st : GroupState) :
    s.keepsBut ((s.setChannel i c).setGroupState i st) eventBlocks :=
  ((s.setChannel_frame i c).mono (by decide)).trans ((State.setGroupState_frame _ i st).mono (by decide))

theorem execConfirmationWindowExpiry_keepsTables (i : Fin 6) (s : State) :
    s.KeepsTablesIn (execConfirmationWindowExpiry i s) := by
  refine onExpiry_keepsTables fun u _ => ?_
  dsimp only
  split
  · exact (u.setChannel_frame i _).keepsTables (by decide)
  · exact ((u.setChannel_groupState_within i _ _).trans ((State.raise_frame _ .groupFail).mono (by decide))).finish_keepsTables

theorem State.endGroupPulse_frame (s : State) (i : Fin 6) (which : GroupPulse) :
    s.keepsBut (s.endGroupPulse i which) [.groups] := by
  unfold State.endGroupPulse
  split
  · exact s.setChannel_frame i _
  · dsimp only
    split
    · exact (s.setChannel_frame i _).trans (State.startTrip_frame _ i)
    · exact s.setChannel_frame i _

theorem execGroupPulseEnd_keepsTables (i : Fin 6) (which : GroupPulse) (s : State) : s.KeepsTablesIn (execGroupPulseEnd i which s) :=
  onExpiry_keepsTables fun u _ => (u.endGroupPulse_frame i which).keepsTables (by decide)

theorem Groups.set_frame (s : State) (g : Groups) : s.keepsBut { s with groups := g } [.groups] :=
  fun b hb => by cases b <;> first | rfl | exact absurd (by decide) hb

theorem execCloseSpacingExpiry_keepsTables (s : State) : s.KeepsTablesIn (execCloseSpacingExpiry s) :=
  onExpiry_keepsTables fun u _ => (Groups.set_frame u _).keepsTables (by decide)

theorem execHandoffTimerExpiry_keepsTables (s : State) : s.KeepsTablesIn (execHandoffTimerExpiry s) := by
  refine onExpiry_keepsTables fun u _ => ?_
  split
  · exact .refl u
  · exact (((Ladder.set_frame u _).mono (by decide)).trans
      (((State.takeStep_frame _).trans (State.nextStep_frame _)).mono (by decide))).finish_keepsTables

theorem State.restoreCheck_within (s : State) : s.keepsBut s.restoreCheck eventBlocks := by
  have finds (l : Ladder) : s.keepsBut { s with ladder := l } eventBlocks := (Ladder.set_frame s l).mono (by decide)
  unfold State.restoreCheck
  dsimp only
  split
  · exact finds _
  · exact .ite (finds _) ((State.commandRestore_frame _ _).mono (by decide))

theorem execRestoreCheck_keepsTables (s : State) : s.KeepsTablesIn (execRestoreCheck s) :=
  onExpiry_keepsTables fun u _ =>
    (((Ladder.set_frame u _).mono (by decide)).trans (State.restoreCheck_within _)).finish_keepsTables

theorem execActionAgeTick_keepsTables (s : State) : s.KeepsTablesIn (execActionAgeTick s) := by
  have ages (u : State) (age : Nat) (timer : Timer) :
      u.KeepsTables { u with ladder := { u.ladder with actionAge := age, ageTimer := timer } } :=
    .of_stands rfl rfl rfl id rfl rfl
  exact onExpiry_keepsTables fun u _ => ages u _ _

/-! ### The service port (Section 11) -/

theorem State.setService_keepsTables (s : State) (p : Service) : s.KeepsTables { s with service := p } :=
  .of_stands rfl rfl rfl id rfl rfl

theorem State.Fits.clearCounters {s : State} {i : Station} {e : PeerEntry} (fits : s.Fits i e) :
    s.Fits i e.clearCounters := fits

theorem State.serveClearCounters_keepsTables (s : State) : s.KeepsTables s.serveClearCounters.1 := by
  have clears (is : List Station) (u : State) :
      u.KeepsTables (is.foldl (fun v i => v.setEntry i (v.entry i).clearCounters) u) := by
    induction is generalizing u with
    | nil => exact .refl u
    | cons i is ih => exact (State.setEntry_keepsTables fun safe => (safe.fits i).clearCounters).trans (ih _)
  exact (clears stations s).trans (.of_stands rfl rfl rfl id rfl rfl)

theorem State.serveClearPhantom_keepsTables (s : State) (arg : Nat) : s.KeepsTables (s.serveClearPhantom arg).1 := by
  unfold State.serveClearPhantom
  split
  · exact .refl s
  · split
    · exact .trans (State.setEntry_keepsTables fun _ => s.fits_empty _ _ _) (State.spread_finish_keepsTables _)
    · exact .refl s

/-- INHIBIT and ENABLE where they change a group's state (R119, R120). -/
theorem State.clearMarks_keepsTables (s : State) (i : Fin 6) (st : GroupState) :
    s.KeepsTables ((s.clearMarks i).setGroupState i st).finish :=
  (s.setChannel_groupState_within i _ st).finish_keepsTables

theorem State.serveInhibit_keepsTables (s : State) (arg : Nat) : s.KeepsTables (s.serveInhibit arg).1 := by
  unfold State.serveInhibit
  split
  · exact .refl s
  · exact .refl s
  · exact .refl s
  · exact .refl s
  all_goals exact s.clearMarks_keepsTables _ _

theorem State.serveEnable_keepsTables (s : State) (arg : Nat) : s.KeepsTables (s.serveEnable arg).1 := by
  unfold State.serveEnable
  split
  · exact .refl s
  · exact s.clearMarks_keepsTables _ _
  · exact .refl s

theorem State.serveRestart_keepsTables (s : State) : s.KeepsTables s.serveRestart.1 := by
  unfold State.serveRestart
  split
  · exact .of_stands rfl rfl rfl id rfl rfl
  · exact .refl s

theorem State.servePeer_fst (s : State) (arg : Nat) : (s.servePeer arg).1 = s := by
  unfold State.servePeer
  split <;> rfl

/-- Every request that is served keeps the tables (R174). -/
theorem State.serve_keepsTables (s : State) (kind arg : Nat) : s.KeepsTables (s.serve kind arg).1 := by
  unfold State.serve
  split
  case h_2 => rw [State.servePeer_fst]; exact .refl s
  case h_8 => exact s.clearLatches_frame.keepsTables (by decide)
  case h_9 => exact s.serveClearCounters_keepsTables
  case h_10 => exact s.serveClearPhantom_keepsTables arg
  case h_11 => exact s.serveInhibit_keepsTables arg
  case h_12 => exact s.serveEnable_keepsTables arg
  case h_13 => exact s.serveRestart_keepsTables
  all_goals exact .refl s

theorem State.takeMessage_keepsTables (s : State) (bs : List Byte) : s.KeepsTables (s.takeMessage bs) := by
  unfold State.takeMessage
  dsimp only
  split
  · exact (s.serve_keepsTables _ _).trans (State.setService_keepsTables _ _)
  · exact s.setService_keepsTables _

theorem State.takeByte_keepsTables (s : State) (b : Byte) : s.KeepsTables (s.takeByte b) := by
  unfold State.takeByte
  split
  · split <;> exact s.setService_keepsTables _
  · unfold State.receiveByte
    dsimp only
    split
    · split <;> exact s.setService_keepsTables _
    · split
      · exact s.takeMessage_keepsTables _
      · exact s.setService_keepsTables _
  · exact s.setService_keepsTables _
  · exact s.setService_keepsTables _

theorem State.takeBytes_keepsTables (bs : List Byte) (s : State) : s.KeepsTables (s.takeBytes bs) := by
  induction bs generalizing s with
  | nil => exact .refl s
  | cons b bs ih => exact (s.takeByte_keepsTables b).trans (ih _)

theorem execServiceByteReceived_keepsTables (b : Byte) (s : State) : s.KeepsTablesIn (execServiceByteReceived b s) :=
  whileAwake_keepsTables fun _ => s.takeByte_keepsTables b

theorem serviceRequest_keepsTables (bs : List Byte) (s : State) : s.KeepsTablesIn (serviceRequest bs s) :=
  whileAwake_keepsTables fun _ => s.takeBytes_keepsTables _

theorem State.endGap_keepsTables (s : State) : s.KeepsTables s.endGap := by
  unfold State.endGap
  dsimp only
  split
  · exact s.setService_keepsTables _
  · split <;> exact s.setService_keepsTables _
  · exact s.setService_keepsTables _
  · exact s.setService_keepsTables _

theorem State.endResponse_keepsTables (s : State) : s.KeepsTables s.endResponse := by
  unfold State.endResponse
  dsimp only
  split <;> exact s.setService_keepsTables _

theorem execResponseSent_keepsTables (s : State) : s.KeepsTablesIn (execResponseSent s) := by
  refine whileAwake_keepsTables fun _ => ?_
  split
  · split
    · split
      · exact s.enterLoad_keepsTables
      · exact .trans (t := { s with loader := { s.loader with restartInProgress := false } })
          (.of_stands rfl rfl rfl id rfl rfl) (State.endResponse_keepsTables _)
    · exact s.endResponse_keepsTables
  · exact .refl s

theorem execServiceGapExpiry_keepsTables (s : State) : s.KeepsTablesIn (execServiceGapExpiry s) :=
  onExpiry_keepsTables fun u _ => u.endGap_keepsTables

/-! ### Power and the modes (Section 10) -/

theorem execListenTimerExpiry_keepsTables (s : State) : s.KeepsTablesIn (execListenTimerExpiry s) :=
  onExpiry_keepsTables fun u _ => (u.seeLanes_frame.keepsTables (by decide)).trans (State.enterRun_keepsTables _)

theorem execLoadReadDone_keepsTables (straps : StrapPins) (image : List Word) (s : State) :
    s.KeepsTablesIn (execLoadReadDone straps image s) := by
  refine State.KeepsTables.next ?_
  split
  · next loading => exact State.enterListen_keepsTables loading.2 straps image
  · exact .refl s

theorem execLoadTimeout_keepsTables (straps : StrapPins) (image : List Word) (s : State) :
    s.KeepsTablesIn (execLoadTimeout straps image s) := by
  unfold execLoadTimeout
  rcases s.loader.loadTimer with _ | d
  · exact (State.KeepsTables.refl s).next
  · refine State.KeepsTables.next ?_
    split
    · next loading =>
      have load : (s.advanceTo d).loader.mode = .load := loading.2
      exact (s.advanceTo_keepsTables d).trans (State.enterListen_keepsTables load straps _)
    · exact .refl s

/-! ### Every command and every step -/

/-- Every command keeps the queue, the peer table and the ladder well formed. -/
theorem exec_keepsTables (c : Instr) (s : State) : s.KeepsTablesIn (exec c s) := by
  cases c with
  | powerOn => exact s.enterLoad_keepsTables.next
  | loadReadDone straps image => exact execLoadReadDone_keepsTables straps image s
  | loadTimeout straps image => exact execLoadTimeout_keepsTables straps image s
  | listenTimerExpiry => exact execListenTimerExpiry_keepsTables s
  | receptionEnd l rx => exact execReceptionEnd_keepsTables l rx s
  | sendStart l => exact execSendStart_keepsTables l s
  | frameComplete l => exact execFrameComplete_keepsTables l s
  | collision l => exact execCollision_keepsTables l s
  | jamEnd l => exact execJamEnd_keepsTables l s
  | backoffExpiry l => exact execBackoffExpiry_keepsTables l s
  | stuckEntry l began => exact execStuckEntry_keepsTables l began s
  | driverTestLaneIdle l => exact execDriverTestLaneIdle_keepsTables l s
  | driverTestExpiry l => exact execDriverTestExpiry_keepsTables l s
  | isolatedLaneIdle l => exact execIsolatedLaneIdle_keepsTables l s
  | stuckEnd l => exact execStuckEnd_keepsTables l s
  | errorWindowExpiry l => exact execErrorWindowExpiry_keepsTables l s
  | silenceTimerExpiry l => exact execSilenceTimerExpiry_keepsTables l s
  | frameTimerExpiry => exact execFrameTimerExpiry_keepsTables s
  | spacingTimerExpiry => exact execSpacingTimerExpiry_keepsTables s
  | intake => exact execIntake_keepsTables s
  | entryTimer350 i => exact execEntryTimer350_keepsTables i s
  | entryTimer1000 i => exact execEntryTimer1000_keepsTables i s
  | lanesHeardExpiry i l => exact execLanesHeardExpiry_keepsTables i l s
  | tieInputChange tie closed => exact execTieInputChange_keepsTables tie closed s
  | tieFilterExpiry tie => exact execTieFilterExpiry_keepsTables tie s
  | returnTimerExpiry => exact execReturnTimerExpiry_keepsTables s
  | meteringIntervalExpiry m => exact execMeteringIntervalExpiry_keepsTables m s
  | breakerCloseEdge => exact execBreakerCloseEdge_keepsTables s
  | breakerOpenEdge => exact execBreakerOpenEdge_keepsTables s
  | runningEdge high => exact execRunningEdge_keepsTables high s
  | availableEdge high => exact execAvailableEdge_keepsTables high s
  | unloadEdge high => exact execUnloadEdge_keepsTables high s
  | startTimerExpiry => exact execStartTimerExpiry_keepsTables s
  | unloadTimerExpiry => exact execUnloadTimerExpiry_keepsTables s
  | openingTimerExpiry => exact execOpeningTimerExpiry_keepsTables s
  | setPulseEnd which => exact execSetPulseEnd_keepsTables which s
  | evaluation => exact execEvaluation_keepsTables s
  | tripRecentTimerExpiry => exact execTripRecentTimerExpiry_keepsTables s
  | feedbackEdge i closed => exact execFeedbackEdge_keepsTables i closed s
  | confirmationWindowExpiry i => exact execConfirmationWindowExpiry_keepsTables i s
  | groupPulseEnd i which => exact execGroupPulseEnd_keepsTables i which s
  | closeSpacingExpiry => exact execCloseSpacingExpiry_keepsTables s
  | handoffTimerExpiry => exact execHandoffTimerExpiry_keepsTables s
  | restoreCheck => exact execRestoreCheck_keepsTables s
  | actionAgeTick => exact execActionAgeTick_keepsTables s
  | requestRising n => exact execRequestRising_keepsTables n s
  | requestFalling n => exact execRequestFalling_keepsTables n s
  | claimWindowExpiry n => exact execClaimWindowExpiry_keepsTables n s
  | retestTimerExpiry => exact execRetestTimerExpiry_keepsTables s
  | waitingTimerExpiry n => exact execWaitingTimerExpiry_keepsTables n s
  | holdTimerExpiry n => exact execHoldTimerExpiry_keepsTables n s
  | claimAgeTick n => exact execClaimAgeTick_keepsTables n s
  | serviceGapExpiry => exact execServiceGapExpiry_keepsTables s
  | badRequest bytes => exact serviceRequest_keepsTables bytes s
  | responseSent => exact execResponseSent_keepsTables s
  | status => exact serviceRequest_keepsTables _ s
  | peer arg => exact serviceRequest_keepsTables _ s
  | ladder => exact serviceRequest_keepsTables _ s
  | claims => exact serviceRequest_keepsTables _ s
  | groups => exact serviceRequest_keepsTables _ s
  | alarms => exact serviceRequest_keepsTables _ s
  | counters => exact serviceRequest_keepsTables _ s
  | clearAlarms => exact serviceRequest_keepsTables _ s
  | clearCounters => exact serviceRequest_keepsTables _ s
  | clearPhantom arg => exact serviceRequest_keepsTables _ s
  | inhibit arg => exact serviceRequest_keepsTables _ s
  | enable arg => exact serviceRequest_keepsTables _ s
  | restart => exact serviceRequest_keepsTables _ s
  | serviceByteReceived b => exact execServiceByteReceived_keepsTables b s
  | receptionBegins l => exact execReceptionBegins_keepsTables l s
  | lossOfPower => exact State.KeepsTables.next (.of_stands rfl rfl rfl id rfl rfl)

/-- Every step keeps the queue, the peer table and the ladder well formed: with a command at the front of the queue by
that command, and otherwise as time alone passes. -/
theorem step_keepsTables (s : State) : s.KeepsTablesIn (step s) := by
  unfold step
  split
  · exact (s.advanceTo_keepsTables _).next
  · next c rest _ =>
    exact fun t h => .trans (t := { s with pending := rest }) (.of_stands rfl rfl rfl id rfl rfl)
      (exec_keepsTables c _ t h)

/-- Settles O58, from what every command keeps. -/
theorem stepKeepsTheTables : Obligations.StepKeepsTheTables :=
  ⟨fun s t table h => (step_keepsTables s t h).1 table,
    fun s t table ladder h => (step_keepsTables s t h).2 table ladder⟩

end Sys2Proof.Machine
end

section
/-! The intake of frames and the entries' timers (R22 to R34), and the timers that move nothing but their own block. -/

namespace Sys2Proof.Machine

/-! ### Plain timers -/

/-- Settles O44: each timer's meaning at its own instant. -/
theorem plainTimersExpire : Obligations.PlainTimersExpire := by
  intro s d awake
  refine ⟨fun i running => ?_, fun i running => ?_, fun running => ?_, fun running => ?_, fun running => ?_,
    fun n running => ?_⟩
  · show execLanesHeardExpiry i .a s = _
    rw [execLanesHeardExpiry, onExpiry_of awake (t := (s.entry i).heard .a) running]
    rfl
  · show execLanesHeardExpiry i .b s = _
    rw [execLanesHeardExpiry, onExpiry_of awake (t := (s.entry i).heard .b) running]
    rfl
  · show execTripRecentTimerExpiry s = _
    simp [execTripRecentTimerExpiry, onExpiry_of awake running]
  · show execCloseSpacingExpiry s = _
    simp [execCloseSpacingExpiry, onExpiry_of awake running]
  · show execActionAgeTick s = _
    simp [execActionAgeTick, onExpiry_of awake running, State.after, bump8, agePeriod, ms]
  · show execClaimAgeTick n s = _
    simp [execClaimAgeTick, onExpiry_of awake running, State.after, bump8, agePeriod, ms]

/-! ### The instant of an intake (R22) -/

theorem State.dequeued_now (s : State) (rest : List (LaneId × Frame)) :
    (s.dequeued rest).now = max s.now s.rx.nextIntake := rfl

theorem State.now_le_dequeued (s : State) (rest : List (LaneId × Frame)) : s.now ≤ (s.dequeued rest).now :=
  le_max_left _ _

/-- An intake stands at least 1 ms after the previous one (R22). -/
theorem State.dequeued_gap {s : State} {u : Nat} (last : s.rx.lastIntake = some u) (rest : List (LaneId × Frame)) :
    u + 1000 ≤ (s.dequeued rest).now := by
  have next : s.rx.nextIntake = u + 1000 := by simp [RxQueue.nextIntake, last, intakeGap, ms]
  rw [s.dequeued_now, next]
  exact le_max_right _ _

/-- Of the card the intake's instant moves the clock and the queue (R22). -/
theorem State.dequeued_eq (s : State) (rest : List (LaneId × Frame)) : s.dequeued rest =
    { s.advanceTo (s.dequeued rest).now with
      rx := { s.rx with frames := rest, lastIntake := some (s.dequeued rest).now } } := by
  have same : s.advanceTo (max s.now s.rx.nextIntake) = s.advanceTo s.rx.nextIntake := by
    simp only [State.advanceTo, max_eq_right (le_max_left s.now s.rx.nextIntake)]
  rw [s.dequeued_now, same]
  rfl

theorem State.entry_dequeued (s : State) (rest : List (LaneId × Frame)) (i : Station) :
    (s.dequeued rest).entry i = s.entry i := rfl

/-! ### The table of R26 -/

/-- What becomes of a frame at an entry that holds a last number (R26). -/
theorem verdict_eq {e : PeerEntry} {n m : Nat} (held : e.state ≠ .empty) (last : e.lastNumber = some m) : verdict e n =
    if distance n m = 0 then .dualCopy
    else if 128 ≤ distance n m ∧ (e.state = .qualifying ∨ e.state = .live) then .lateFrame else .accepted := by
  have beyond : distance n m ≤ 127 ↔ ¬ 128 ≤ distance n m := by omega
  cases state : e.state with
  | empty => exact absurd state held
  | qualifying => by_cases late : 128 ≤ distance n m <;> simp [verdict, state, last, beyond, late]
  | live => by_cases late : 128 ≤ distance n m <;> simp [verdict, state, last, beyond, late]
  | stale => simp [verdict, state, last]
  | phantom => simp [verdict, state, last]

theorem PeerEntry.hear_eq (e : PeerEntry) (l : LaneId) (now : Nat) : e.hear l now = { e with
    heardA := if l = .a then some (now + 500000) else e.heardA
    heardB := if l = .b then some (now + 500000) else e.heardB } := by
  cases l <;> rfl

/-- The intake of a discarded frame, of either kind (R26, R31, R37). -/
theorem State.takeIn_discarded {s : State} {l : LaneId} {f : Frame} {dual : Prop} [Decidable dual]
    (decided : verdict (s.entry f.station) f.number = if dual then .dualCopy else .lateFrame) :
    let e := s.entry f.station
    s.takeIn l f = s.counted f.station
      { e with
        dualCopies := if dual then min 65535 (e.dualCopies + 1) else e.dualCopies
        lateFrames := if dual then e.lateFrames else min 65535 (e.lateFrames + 1)
        heardA := if l = .a then some (s.now + 500000) else e.heardA
        heardB := if l = .b then some (s.now + 500000) else e.heardB }
      (if dual then s.peers.lateFrames else min 65535 (s.peers.lateFrames + 1))
      (if dual then min 65535 (s.peers.dualCopies + 1) else s.peers.dualCopies) := by
  by_cases copy : dual
  · simp only [copy, if_true] at decided ⊢
    rw [State.takeIn_dualCopy decided, PeerEntry.hear_eq]
    simp only [bump]
  · simp only [copy, if_false] at decided ⊢
    rw [State.takeIn_lateFrame decided, PeerEntry.hear_eq]
    simp only [bump]

theorem State.counted_frame (s : State) (i : Station) (x : PeerEntry) (late dual : Nat) :
    s.keepsBut (s.counted i x late dual) [.peers] :=
  fun b hb => by cases b <;> first | rfl | exact absurd (by decide) hb

theorem RxQueue.set_frame (s : State) (q : RxQueue) : s.keepsBut { s with rx := q } [.rx] :=
  fun b hb => by cases b <;> first | rfl | exact absurd (by decide) hb

/-- Of the card an intake moves the clock, the lanes' byte counters with it, and the queue (R4, R22). -/
theorem State.dequeued_keepsBut (s : State) (rest : List (LaneId × Frame)) :
    (s.advanceTo (s.dequeued rest).now).keepsBut (s.dequeued rest) [.rx] := by
  have moved := RxQueue.set_frame (s.advanceTo (s.dequeued rest).now)
    { s.rx with frames := rest, lastIntake := some (s.dequeued rest).now }
  rwa [← s.dequeued_eq rest] at moved

/-- Settles O22: both kinds are counted, and the card-wide counters and the entry alone move past the queue. -/
theorem dualAndLateFramesAreCounted : Obligations.DualAndLateFramesAreCounted := by
  intro s l f rest m awake queued held last d e discarded
  have decided : verdict ((s.dequeued rest).entry f.station) f.number = if d = 0 then .dualCopy else .lateFrame := by
    rw [s.entry_dequeued, verdict_eq held last, show distance f.number m = d from rfl]
    by_cases dual : d = 0
    · rw [if_pos dual, if_pos dual]
    · rw [if_neg dual, if_neg dual, if_pos (discarded.resolve_left dual)]
  refine ⟨_, (execIntake_eq awake queued).trans (congrArg _ (State.takeIn_discarded decided)), rfl, s.now_le_dequeued rest,
    fun u last => State.dequeued_gap last rest, State.entry_setEntry _ _ _, rfl, rfl,
    fun i ne => State.entry_setEntry_ne _ _ ne.symm, ?_⟩
  exact ((s.dequeued_keepsBut rest).mono (by decide)).trans ((State.counted_frame _ _ _ _ _).mono (by decide))

end Sys2Proof.Machine
end

section
/-! A change of a peer entry at the end of an event: silent entries (R32 to R34), accepted frames (R26 to R31), and the
trip notices they carry (R30, R42, R91, R98, R137 to R140). -/

namespace Sys2Proof.Machine

/-! ### A change among the peers, taken up -/

/-- A change among the peers that has left the own set, the groups, the ladder and the claims as they were, and is then
taken up by the ladder and by the end of the event (R127, R128, R133 to R135). -/
theorem State.spread_finish_followed {s b : State} (seq : b.seq = s.seq) (groups : b.groups = s.groups)
    (ladder : b.ladder = s.ladder) (admission : b.admission = s.admission) :
    s.Followed { b with groups := b.spread.finish.groups, ladder := b.spread.finish.ladder } b.spread.finish
      ∧ s.LadderSpread b b.spread.finish :=
  ⟨b.spread_moves.followed (congrArg _ seq) groups admission,
    (State.spread_ladderSpread groups ladder).later (State.finish_groups _) (State.finish_ladder _) (State.finish_now _)
      (State.finish_latches _)⟩

/-! ### Silent entries -/

/-- The expiry at 350 ms (R32). -/
theorem exec_entryTimer350 {s : State} {i : Station} {u : Nat} (awake : s.Awake) (started : (s.entry i).timerFrom = some u)
    (live : (s.entry i).state = .live) : exec (.entryTimer350 i) s = .next
      ((s.advanceTo (u + 350000)).setEntry i { s.entry i with state := .stale }).spread.finish := by
  show execEntryTimer350 i s = _
  rw [execEntryTimer350, if_pos live, started, Option.map_some, onExpiry_of awake rfl]
  rfl

/-- The expiry at 1,000 ms of an entry that is not LIVE (R33, R34). -/
theorem exec_entryTimer1000 {s : State} {i : Station} {u : Nat} (awake : s.Awake) (started : (s.entry i).timerFrom = some u)
    (silent : (s.entry i).state ≠ .live) : exec (.entryTimer1000 i) s = .next
      ((s.advanceTo (u + 1000000)).setEntry i (s.entry i).expire).spread.finish := by
  show execEntryTimer1000 i s = _
  rw [execEntryTimer1000, if_neg silent, started, Option.map_some, onExpiry_of awake rfl]
  rfl

/-- A STALE entry with an online record is lost as PHANTOM (R33). -/
theorem PeerEntry.expire_online {e : PeerEntry} {r : PeerRecord} (stale : e.state = .stale) (record : e.record = some r)
    (online : r.setState.online = true) : e.expire = { e with state := .phantom, timerFrom := none } := by
  simp [PeerEntry.expire, PeerEntry.lose, stale, record, online]

/-- Every other entry that the expiry reaches becomes EMPTY (R33, R34). -/
theorem PeerEntry.expire_empty {e : PeerEntry} (lost : e.state = .qualifying
    ∨ (e.state = .stale ∧ ∀ r, e.record = some r → r.setState.online = false)) :
    e.expire = PeerEntry.empty e.lateFrames e.dualCopies := by
  rcases lost with qualifying | ⟨stale, offline⟩
  · simp [PeerEntry.expire, PeerEntry.clear, qualifying]
  · cases record : e.record with
    | none => simp [PeerEntry.expire, PeerEntry.lose, PeerEntry.clear, stale, record]
    | some r => simp [PeerEntry.expire, PeerEntry.lose, PeerEntry.clear, stale, record, offline r record]

/-- A PHANTOM entry makes its alarm kind active (R25, R177). -/
theorem State.active_phantom {s : State} {i : Station} (phantom : (s.entry i).state = .phantom) :
    s.active .phantom = true := by
  show s.anyPhantom = true
  refine List.any_eq_true.2 ⟨s.entry i, ?_, by simp [phantom]⟩
  exact Vector.mem_toList_iff.2 (Vector.getElem_mem i.isLt)

/-- Settles O25: each expiry rewrites the entry, and the change is taken up as every change among the peers. -/
theorem silentEntryFades : Obligations.SilentEntryFades := by
  intro s i u awake started e spreads
  have spread (d : Nat) (x : PeerEntry) :
      spreads ((s.advanceTo d).setEntry i x) ((s.advanceTo d).setEntry i x).spread.finish :=
    State.spread_finish_followed rfl rfl rfl rfl
  refine ⟨fun live => ?_, fun notLive => ?_, fun r stale record online => ?_, fun lost => ?_⟩
  · exact ⟨_, exec_entryTimer350 awake started live, spread _ _⟩
  · show execEntryTimer350 i s = _
    rw [execEntryTimer350, if_neg notLive]
    rfl
  · have expires := exec_entryTimer1000 awake started (by rw [show (s.entry i).state = .stale from stale]; simp)
    rw [PeerEntry.expire_online stale record online] at expires
    refine ⟨_, expires, spread _ _, ?_⟩
    obtain ⟨-, -, -, latched, -⟩ := State.finish_settled (State.spread
      ((s.advanceTo (u + 1000000)).setEntry i { s.entry i with state := .phantom, timerFrom := none }))
    refine latched .phantom (State.active_phantom (i := i) ?_)
    rw [State.entry, State.finish_peers, State.spread_frame _ .peers (by decide)]
    exact congrArg PeerEntry.state (State.entry_setEntry _ i _)
  · have notLive : (s.entry i).state ≠ .live := by
      rcases lost with qualifying | ⟨stale, -⟩
      · rw [show (s.entry i).state = .qualifying from qualifying]
        simp
      · rw [show (s.entry i).state = .stale from stale]
        simp
    have expires := exec_entryTimer1000 awake started notLive
    rw [PeerEntry.expire_empty lost] at expires
    exact ⟨_, expires, spread _ _⟩

/-! ### The groups and then the set moved within one event -/

/-- The shed commands of a block shed move groups by commands of the ladder alone (R143). -/
theorem State.commandSheds_moves (es : List LadderEntry) (s : State) : s.MovedGroups (s.commandSheds es) := by
  induction es generalizing s with
  | nil => exact .refl s
  | cons e es ih => exact (s.commandShed_moves e.index).trans (ih _)

theorem State.blockShed_moves (s : State) (n : TripNotice) : s.MovedGroups (s.blockShed n) := by
  rw [State.blockShed_eq]
  split
  · exact .refl s
  · split
    · exact (s.raise_moves _).trans (State.commandSheds_moves _ _)
    · exact State.commandSheds_moves _ s

/-- An unload in progress that is aborted returns to SHARING (R91). -/
theorem State.abortUnload_moved (s : State) : s.MovedSet s.abortUnload := by
  unfold State.abortUnload
  split
  · next unloading => exact State.MovedSet.enter s _ (by simp [unloading])
  · exact .refl s

/-- From `s` to `t` the ladder has moved groups, the duty logic its own fields, and the set sequencer the set, in this
order. -/
def State.MovedInTurn (s t : State) : Prop :=
  ∃ v d, s.MovedGroups v ∧ State.MovedSet { v with duty := d } t

/-- A trip notice moves the groups by the block shed and then aborts an unload (R91, R98, R138). -/
theorem State.takeTripNotice_moves (s : State) (n : TripNotice) : s.MovedInTurn (s.takeTripNotice n) := by
  have aborts (u : State) (c : Prop) [Decidable c] : u.MovedSet (if c then u else u.abortUnload) := by
    split
    · exact .refl u
    · exact u.abortUnload_moved
  unfold State.takeTripNotice
  dsimp only
  split
  · split
    · exact ⟨s.blockShed n, _, s.blockShed_moves n, aborts (s.blockShed n).startTripRecent _⟩
    · exact ⟨s, s.duty, .refl s, aborts s _⟩
  · exact ⟨s, s.duty, .refl s, .refl s⟩

/-- The end of an event that found the card as `s`, has taken it to `b` without a change that is reported at once, and has
then moved groups, the duty logic and the set (R15, R16). -/
theorem State.MovedInTurn.followed {s b t : State} (h : b.MovedInTurn t) (seq : b.seq = s.seq)
    (groups : b.groups = s.groups) (admission : b.admission = s.admission) :
    s.Followed { b with
      groups := t.finish.groups, ladder := t.finish.ladder, seq := t.finish.seq, regulator := t.finish.regulator
      duty := t.finish.duty } t.finish := by
  obtain ⟨v, d, ⟨blocks, -, stands, moved⟩, ⟨setMoved, setGroups, -, setWaits⟩⟩ := h
  have requested : State.Requested { b with
      groups := t.groups, ladder := t.finish.ladder, seq := t.seq, regulator := t.regulator, duty := t.duty } t := by
    obtain ⟨p1, p2, p3, -, p5, p6, p7⟩ := blocks
    obtain ⟨q1, q2, q3, -, q5, q6, q7⟩ := setMoved
    refine ⟨fun k hk => ?_, fun x hx => q2 x (p2 x hx), ?_, by rw [t.finish_ladder], q5.trans p5, q6.trans p6,
      q7.trans p7⟩
    · have first := p1 k hk
      have second := q1 k hk
      cases k <;> first | rfl | (exact absurd (by decide) hk) | exact Eq.trans second first
    · have second : t.composer = { v.composer with waiting := t.composer.waiting } := q3
      rw [second, p3]
  have vseq : v.seq = b.seq := blocks.1 .seq (by decide)
  have mode : v.loader.mode = b.loader.mode := congrArg _ (blocks.1 .loader (by decide))
  have tgroups : t.groups = v.groups := setGroups
  have tadmission : t.admission = s.admission := Eq.trans (requested.1 .admission (by decide)) admission
  have urges : s.Urges t.finish ↔
      t.seq.state ≠ v.seq.state ∨ ∃ i, (v.channel i).state ≠ (b.channel i).state := by
    simp [State.Urges, State.channel, State.claim, tadmission, tgroups, vseq, seq, groups]
  change t.seq.state = v.seq.state ∧ t.composer.waiting = v.composer.waiting
    ∨ t.seq.state ≠ v.seq.state ∧ t.composer.waiting
      = (if v.loader.mode = .run then some .urgent else v.composer.waiting) at setWaits
  rw [mode] at setWaits
  rw [State.finish_groups, State.finish_seq, State.finish_regulator, State.finish_duty]
  refine requested.followed (fun run urged => ?_) (fun quiet => ?_)
  · change b.loader.mode = .run at run
    rw [if_pos run] at moved setWaits
    rcases setWaits with ⟨still, waits⟩ | ⟨-, waits⟩
    · rw [waits, moved ((urges.1 urged).resolve_left fun changed => changed still)]
    · exact waits
  · change b.loader.mode ≠ .run ∨ _ at quiet
    show t.composer.waiting = b.composer.waiting
    rw [urges] at quiet
    by_cases run : b.loader.mode = .run
    · have still := quiet.resolve_left (not_not_intro run)
      push Not at still
      rw [(setWaits.resolve_right fun changed => changed.1 still.1).2, stands still.2]
    · rw [if_neg run] at moved setWaits
      have same : t.composer.waiting = v.composer.waiting := by tauto
      by_cases anyMoved : ∃ i, (v.channel i).state ≠ (b.channel i).state
      · rw [same, moved anyMoved]
      · rw [same, stands (by simpa using anyMoved)]

end Sys2Proof.Machine
end

section
/-! The intake of an accepted frame (R26 to R31), and the trip notice it may raise (R30). -/

namespace Sys2Proof.Machine

/-! ### The intake of an accepted frame -/

/-- The card with an accepted frame in its entry, before the change is taken up (R27 to R31). -/
def State.accepting (s : State) (l : LaneId) (f : Frame) (rest : List (LaneId × Frame)) : State :=
  let now := (s.dequeued rest).now
  (s.dequeued rest).setEntry f.station (((s.entry f.station).accept f now).hear l now)

/-- The accepting card, as the statements say it. -/
theorem State.accepting_eq {s : State} {l : LaneId} {f : Frame} {rest : List (LaneId × Frame)} {now : Nat}
    (instant : now = (s.dequeued rest).now) :
    let e := s.entry f.station
    s.accepting l f rest = { (s.advanceTo now).setEntry f.station { e with
        state := (stateAfter e now).1, qualifyCount := (stateAfter e now).2, record := some f.content
        lastNumber := some f.number, lastTime := some now, timerFrom := some now
        previousSetState := e.record.map (·.setState)
        heardA := if l = .a then some (now + 500000) else e.heardA
        heardB := if l = .b then some (now + 500000) else e.heardB } with
      rx := { s.rx with frames := rest, lastIntake := some now } } := by
  subst instant
  show (s.dequeued rest).setEntry f.station _ = _
  rw [PeerEntry.hear_eq]
  exact congrArg (fun u : State => u.setEntry f.station _) (s.dequeued_eq rest)

/-- The intake of an accepted frame: the change is taken up, with its trip notice, and the event ends (R26 to R30). -/
theorem exec_intake_accepted {s : State} {l : LaneId} {f : Frame} {rest : List (LaneId × Frame)} (awake : s.Awake)
    (queued : s.rx.frames = (l, f) :: rest) (accepted : verdict (s.entry f.station) f.number = .accepted) :
    exec .intake s = .next ((s.accepting l f rest).takeUp (tripNoticeOf f.station (s.entry f.station) f)).finish :=
  (execIntake_eq awake queued).trans (congrArg _ (State.takeIn_accepted (s := s.dequeued rest) accepted))

theorem State.takeUp_finish_now (s : State) (l : LaneId) (f : Frame) (rest : List (LaneId × Frame)) (n : Option TripNotice) :
    ((s.accepting l f rest).takeUp n).finish.now = (s.dequeued rest).now :=
  (State.finish_now _).trans (State.takeUp_within _ n .clock (by decide))

/-- The taking up of a frame moves the groups, the duty logic and the set in turn (R127, R138). -/
theorem State.takeUp_moves (s : State) (n : Option TripNotice) : s.MovedInTurn (s.takeUp n) := by
  cases n with
  | none => exact ⟨s.spread, s.spread.duty, s.spread_moves, .refl s.spread⟩
  | some n =>
    obtain ⟨v, d, groups, set⟩ := s.spread.takeTripNotice_moves n
    exact ⟨v, d, s.spread_moves.trans groups, set⟩

/-! ### Trip notices -/

/-- A frame that reports no trip of a set that was heard online raises no notice (R30). -/
theorem tripNoticeOf_none {i : Station} {e : PeerEntry} {f : Frame}
    (noNotice : ¬ (f.content.setState = .tripped ∧ (e.state = .live ∨ e.state = .stale ∨ e.state = .phantom)
      ∧ ∃ r, e.record = some r ∧ (r.setState = .loading ∨ r.setState = .sharing ∨ r.setState = .unloading))) :
    tripNoticeOf i e f = none := by
  unfold tripNoticeOf
  split
  · next r record =>
    refine if_neg fun ⟨counted, online, tripped⟩ => noNotice ⟨tripped, ?_, r, record, online⟩
    cases state : e.state <;> simp [state, EntryState.counted] at counted ⊢
  · rfl

/-- The notice of a trip (R30). -/
theorem tripNoticeOf_some {i : Station} {e : PeerEntry} {f : Frame} {r : PeerRecord} (record : e.record = some r)
    (counted : e.state.counted = true) (online : r.setState = .loading ∨ r.setState = .sharing ∨ r.setState = .unloading)
    (tripped : f.content.setState = .tripped) : tripNoticeOf i e f =
      some { station := i, p := r.p, rating := r.rating, tripSection := r.islandSection } := by
  simp only [tripNoticeOf, record]
  exact if_pos ⟨counted, online, tripped⟩

/-! ### Accepted frames -/

/-- The frames of which O23 speaks are accepted (R26). -/
theorem verdict_accepted {e : PeerEntry} {n : Nat} (near : e.state = .empty ∨ ∃ m, e.lastNumber = some m
    ∧ distance n m ≠ 0 ∧ (e.state = .stale ∨ e.state = .phantom ∨ distance n m ≤ 127)) : verdict e n = .accepted := by
  by_cases empty : e.state = .empty
  · exact verdict_of_empty empty n
  · obtain ⟨m, last, ne, near⟩ := near.resolve_left empty
    rw [verdict_eq empty last, if_neg ne, if_neg]
    rintro ⟨far, held⟩
    rcases near with stale | phantom | close
    · simp [stale] at held
    · simp [phantom] at held
    · omega

/-- A frame within 250 ms of the last one counts toward qualification (R29). -/
theorem stateAfter_soon {e : PeerEntry} {now u : Nat} (qualifying : e.state = .qualifying) (last : e.lastTime = some u)
    (soon : now ≤ u + 250000) :
    stateAfter e now = if e.qualifyCount < 2 then (.qualifying, e.qualifyCount + 1) else (.live, 3) := by
  have gap : gapCounts e now = true := by
    simp only [gapCounts, last]
    exact decide_eq_true soon
  simp only [stateAfter, qualifying, gap, if_true]
  by_cases few : e.qualifyCount < 2
  · rw [if_neg (by omega), if_pos few]
  · rw [if_pos (by omega), if_neg few]

/-- A later frame begins qualification again (R29). -/
theorem stateAfter_late {e : PeerEntry} {now u : Nat} (qualifying : e.state = .qualifying) (last : e.lastTime = some u)
    (late : u + 250000 < now) : stateAfter e now = (.qualifying, 1) := by
  have gap : gapCounts e now = false := by
    simp only [gapCounts, last]
    exact decide_eq_false (Nat.not_le.2 late)
  simp [stateAfter, qualifying, gap]

/-- An entry past QUALIFYING is LIVE after a frame (R28). -/
theorem stateAfter_counted {e : PeerEntry} (now : Nat) (counted : e.state.counted = true) :
    stateAfter e now = (.live, if e.state = .live then e.qualifyCount else 3) := by
  cases state : e.state <;> simp [state, EntryState.counted, stateAfter] at counted ⊢

/-- Settles O23, through what the taking up of a frame moves, and what it does without a trip notice. -/
theorem acceptedFrameReplacesTheRecord : Obligations.AcceptedFrameReplacesTheRecord := by
  intro s l f rest awake queued e near entered notice
  have taken := exec_intake_accepted awake queued (verdict_accepted near)
  have instant := s.takeUp_finish_now l f rest (tripNoticeOf f.station e f)
  have followed := ((s.accepting l f rest).takeUp_moves (tripNoticeOf f.station e f)).followed (s := s) rfl rfl rfl
  have bare : ¬ notice → tripNoticeOf f.station e f = none := tripNoticeOf_none
  generalize tripNoticeOf f.station e f = n at *
  have same := State.accepting_eq (l := l) (f := f) instant
  have gap := fun u last => instant ▸ State.dequeued_gap (u := u) last rest
  generalize after : ((s.accepting l f rest).takeUp n).finish = t at *
  refine ⟨t, (stateAfter e t.now).1, (stateAfter e t.now).2, taken, instant ▸ s.now_le_dequeued rest, gap, ?_, fun quiet => ?_,
    fun empty => ?_, fun u qualifying last soon few => ?_, fun u qualifying last soon enough => ?_,
    fun u qualifying last late => ?_, fun live => ?_, fun faded => ?_⟩
  · rw [show entered t _ _ = s.accepting l f rest from same.symm]
    exact followed
  · rw [show entered t _ _ = s.accepting l f rest from same.symm]
    rw [bare quiet, State.takeUp_none] at after
    subst after
    have stands := State.spread_frame (s.accepting l f rest)
    refine ⟨?_, ?_, ?_, (State.spread_finish_followed rfl rfl rfl rfl).2⟩
    · exact (State.finish_seq _).trans (stands .seq (by decide))
    · exact (State.finish_regulator _).trans (stands .regulator (by decide))
    · exact (State.finish_duty _).trans (stands .duty (by decide))
  · simp [stateAfter, empty]
  · simp [stateAfter_soon qualifying last soon, few]
  · simp [stateAfter_soon qualifying last soon, Nat.not_lt.2 enough]
  · simp [stateAfter_late qualifying last late]
  · simp [stateAfter_counted t.now (show e.state.counted = true by rw [live]; rfl), live]
  · have counted : e.state.counted = true := by rcases faded with state | state <;> rw [state] <;> rfl
    have notLive : e.state ≠ .live := by rcases faded with state | state <;> rw [state] <;> simp
    simp [stateAfter_counted t.now counted, notLive]

end Sys2Proof.Machine
end

section
/-! The trip notice of a peer (R30, R42, R91, R98, R137 to R140): who reads it, and what an aborted unload leaves. -/

namespace Sys2Proof.Machine

/-! ### Whose notice it is (R42) -/

theorem State.own_of_loader {s t : State} (loader : t.loader = s.loader) : t.own = s.own := by
  rw [State.own, State.own, State.conf, State.conf, loader]

/-- A change taken up leaves the section set that the filtered ties give (R40, R48). -/
theorem State.spread_sections (s : State) :
    s.spread.island.sections = islandSections s.conf.ownSection s.island.tieView :=
  congrArg Island.sections (s.resolve.syncLadder_frame .island (by decide))

/-- The notice of a peer is for the island if the tripped set stood in one of its sections (R42). -/
theorem State.noticeForIsland_spread {s : State} {n : TripNotice} (peer : n.station ≠ s.own) :
    s.spread.noticeForIsland n = true ↔ n.tripSection ∈ islandSections s.conf.ownSection s.island.tieView := by
  have own : s.spread.own = s.own := State.own_of_loader (s.spread_frame .loader (by decide))
  rw [State.noticeForIsland, State.spread_sections, own, Bool.or_eq_true, beq_iff_eq, List.contains_iff_mem]
  exact or_iff_right peer

/-! ### The ladder and the duty logic (R98, R137 to R140) -/

/-- The card once its ladder and its duty logic have dealt with a trip notice for the island. -/
def State.noticed (s : State) (n : TripNotice) : State :=
  if s.mode = .run then (s.blockShed n).startTripRecent else s

theorem State.noticed_of_run {s : State} (run : s.mode = .run) (n : TripNotice) :
    s.noticed n = (s.blockShed n).startTripRecent := if_pos run

theorem State.noticed_of_not_run {s : State} (quiet : s.mode ≠ .run) (n : TripNotice) : s.noticed n = s := if_neg quiet

theorem State.noticed_frame (s : State) (n : TripNotice) :
    s.keepsBut (s.noticed n) [.groups, .composer, .ladder, .alarms, .duty] := by
  by_cases run : s.mode = .run
  · rw [State.noticed_of_run run]
    exact ((s.blockShed_frame n).mono (by decide)).trans ((State.startTripRecent_frame _).mono (by decide))
  · rw [State.noticed_of_not_run run]
    exact .refl s _

/-- A peer's notice for the island goes to the ladder and to the duty logic before the unload is aborted (R138). -/
theorem State.takeTripNotice_peer {s : State} {n : TripNotice} (island : s.noticeForIsland n = true)
    (peer : n.station ≠ s.own) : s.takeTripNotice n = (s.noticed n).abortUnload := by
  have own : (s.noticed n).own = s.own := State.own_of_loader (s.noticed_frame n .loader (by decide))
  rw [State.takeTripNotice, if_pos island]
  exact if_neg (own ▸ peer)

theorem State.takeTripNotice_elsewhere {s : State} {n : TripNotice} (elsewhere : ¬ s.noticeForIsland n = true) :
    s.takeTripNotice n = s := if_neg elsewhere

/-! ### The abort of an unload (R91) -/

/-- Unless the set is UNLOADING a notice aborts nothing. -/
theorem State.abortUnload_of_ne {s : State} (other : s.seq.state ≠ .unloading) : s.abortUnload = s := if_neg other

theorem State.abortUnload_unloading {s : State} (unloading : s.seq.state = .unloading) :
    s.abortUnload.seq
        = { s.seq with state := .sharing, unloadTimer := none, openingTimer := none, unloadKind := .none }
      ∧ s.abortUnload.regulator = { s.regulator with rampTarget := none } := by
  rw [State.abortUnload, if_pos unloading]
  exact ⟨State.setSetState_seq _ _, State.setSetState_regulator _ _⟩

@[simp] theorem State.finish_actionAge (s : State) : s.finish.ladder.actionAge = s.ladder.actionAge := by
  rw [s.finish_ladder]

/-- The abort and the end of the event leave what the ladder and the duty logic have done. -/
theorem State.abortUnload_finish_stands (s : State) :
    s.abortUnload.finish.groups = s.groups ∧ s.abortUnload.finish.ladder.actionAge = s.ladder.actionAge
      ∧ s.abortUnload.finish.duty = s.duty ∧ s.keepsLatches s.abortUnload.finish := by
  have stands := s.abortUnload_frame
  refine ⟨?_, ?_, ?_, ?_⟩
  · exact (State.finish_groups _).trans (stands .groups (by decide))
  · exact (State.finish_actionAge _).trans
      (congrArg Ladder.actionAge (stands .ladder (by decide)))
  · exact (State.finish_duty _).trans (stands .duty (by decide))
  · exact (State.keepsLatches.of_eq (stands .alarms (by decide))).trans (State.finish_latches _)

/-! ### A peer's trip -/

/-- The notice of a peer in the island, at a card in RUN: the block shed and the trip-recent timer (R98, R137 to R140). -/
theorem State.takeTripNotice_run {s : State} {n : TripNotice} (island : s.noticeForIsland n = true)
    (peer : n.station ≠ s.own) (run : s.mode = .run) :
    s.BlockShed (s.takeTripNotice n).finish n.station n.p
      ∧ (s.takeTripNotice n).finish.duty = { s.duty with tripRecent := some (s.now + 5000000) } := by
  rw [State.takeTripNotice_peer island peer, State.noticed_of_run run]
  obtain ⟨groups, age, duty, latches⟩ := (s.blockShed n).startTripRecent.abortUnload_finish_stands
  refine ⟨s.blockShed_done n groups age latches, duty.trans ?_⟩
  have before : (s.blockShed n).duty = s.duty := s.blockShed_frame n .duty (by decide)
  have clock : (s.blockShed n).now = s.now := s.blockShed_frame n .clock (by decide)
  show { (s.blockShed n).duty with tripRecent := some ((s.blockShed n).now + 5000000) } = _
  rw [before, clock]

/-- A peer's notice from another section, or at a card that is not in RUN, moves no group and no timer (R42, R137). -/
theorem State.takeTripNotice_passed {s : State} {n : TripNotice} (peer : n.station ≠ s.own)
    (passed : ¬ s.noticeForIsland n = true ∨ s.mode ≠ .run) :
    (s.takeTripNotice n).finish.groups = s.groups
      ∧ (s.takeTripNotice n).finish.ladder.actionAge = s.ladder.actionAge
      ∧ (s.takeTripNotice n).finish.duty = s.duty := by
  by_cases island : s.noticeForIsland n = true
  · rw [State.takeTripNotice_peer island peer, State.noticed_of_not_run (passed.resolve_left (not_not_intro island))]
    obtain ⟨groups, age, duty, -⟩ := s.abortUnload_finish_stands
    exact ⟨groups, age, duty⟩
  · rw [State.takeTripNotice_elsewhere island]
    exact ⟨s.finish_groups, s.finish_actionAge, s.finish_duty⟩

/-- The notice of a peer in the island aborts an own unload in progress (R91). -/
theorem State.takeTripNotice_unloading {s : State} {n : TripNotice} (island : s.noticeForIsland n = true)
    (peer : n.station ≠ s.own) (unloading : s.seq.state = .unloading) :
    (s.takeTripNotice n).finish.seq
        = { s.seq with state := .sharing, unloadTimer := none, openingTimer := none, unloadKind := .none }
      ∧ (s.takeTripNotice n).finish.regulator = { s.regulator with rampTarget := none } := by
  have seq : (s.noticed n).seq = s.seq := s.noticed_frame n .seq (by decide)
  have regulator : (s.noticed n).regulator = s.regulator := s.noticed_frame n .regulator (by decide)
  have aborted := State.abortUnload_unloading (s := s.noticed n) (by rw [seq, unloading])
  rw [seq, regulator] at aborted
  rwa [State.takeTripNotice_peer island peer, State.finish_seq, State.finish_regulator]

/-- A peer's notice from another section, or beside a set that is not UNLOADING, leaves the set (R42, R91). -/
theorem State.takeTripNotice_set_stands {s : State} {n : TripNotice} (peer : n.station ≠ s.own)
    (passed : ¬ s.noticeForIsland n = true ∨ s.seq.state ≠ .unloading) :
    (s.takeTripNotice n).finish.seq = s.seq ∧ (s.takeTripNotice n).finish.regulator = s.regulator := by
  rw [State.finish_seq, State.finish_regulator]
  by_cases island : s.noticeForIsland n = true
  · have seq : (s.noticed n).seq = s.seq := s.noticed_frame n .seq (by decide)
    rw [State.takeTripNotice_peer island peer,
      State.abortUnload_of_ne (seq ▸ passed.resolve_left (not_not_intro island))]
    exact ⟨seq, s.noticed_frame n .regulator (by decide)⟩
  · rw [State.takeTripNotice_elsewhere island]
    exact ⟨rfl, rfl⟩

/-- The entries of which O24 speaks are past QUALIFYING. -/
theorem EntryState.counted_of_heard {e : EntryState} {close : Prop}
    (heard : e = .stale ∨ e = .phantom ∨ (e = .live ∧ close)) : e.counted = true := by
  rcases heard with rfl | rfl | ⟨rfl, -⟩ <;> rfl

/-- Settles O24: the frame's own change is taken up first, and then the notice that it carries. -/
theorem peerTripIsNoticed : Obligations.PeerTripIsNoticed := by
  intro s l f rest m r awake queued peer last apart e heard record online tripped inIsland
  have counted : e.state.counted = true := EntryState.counted_of_heard heard
  have near : e.state = .stale ∨ e.state = .phantom ∨ distance f.number m ≤ 127 :=
    heard.imp_right (.imp_right fun ⟨_, close⟩ => close)
  obtain ⟨n, notice, station, p, tripSection⟩ : ∃ n : TripNotice, tripNoticeOf f.station e f = some n
      ∧ n.station = f.station ∧ n.p = r.p ∧ n.tripSection = r.islandSection :=
    ⟨_, tripNoticeOf_some record counted online tripped, rfl, rfl, rfl⟩
  have taken := exec_intake_accepted awake queued (verdict_accepted (.inr ⟨m, last, apart, near⟩))
  have instant := s.takeUp_finish_now l f rest (some n)
  have same := State.accepting_eq (l := l) (f := f) instant
  have stands := (s.accepting l f rest).spread_frame
  have fromPeer : n.station ≠ (s.accepting l f rest).spread.own := by
    rwa [station, State.own_of_loader (stands .loader (by decide))]
  have island : (s.accepting l f rest).spread.noticeForIsland n = true ↔ inIsland := by
    rw [State.noticeForIsland_spread (station ▸ peer), tripSection]
    rfl
  have mode : (s.accepting l f rest).spread.mode = s.loader.mode := congrArg Loader.mode (stands .loader (by decide))
  have now : (s.accepting l f rest).spread.now = (s.dequeued rest).now := stands .clock (by decide)
  have seq : (s.accepting l f rest).spread.seq = s.seq := stands .seq (by decide)
  have regulator : (s.accepting l f rest).spread.regulator = s.regulator := stands .regulator (by decide)
  have duty : (s.accepting l f rest).spread.duty = s.duty := stands .duty (by decide)
  have spreads : s.LadderSpread (s.accepting l f rest) (s.accepting l f rest).spread :=
    State.spread_ladderSpread rfl rfl
  rw [notice, State.takeUp_some] at taken
  rw [State.takeUp_some] at instant same
  rw [← instant] at now
  dsimp only at same
  rw [stateAfter_counted (e := s.entry f.station) _ counted,
    show (s.entry f.station).record = some r from record] at same
  refine ⟨((s.accepting l f rest).spread.takeTripNotice n).finish, ?_⟩
  intro b u
  have found : b = s.accepting l f rest := same.symm
  clear_value b
  subst found
  refine ⟨taken, spreads, fun inside run => ?_, fun passed => ?_, ?_, fun inside unloading => ?_, fun passed => ?_⟩
  · rw [← station, ← p]
    exact (State.takeTripNotice_run (island.2 inside) fromPeer (mode.trans run)).1
  · obtain ⟨groups, age, -⟩ := State.takeTripNotice_passed fromPeer (passed.imp (mt island.1) (mode ▸ ·))
    exact ⟨groups, age⟩
  · split
    · next acts =>
      rw [(State.takeTripNotice_run (island.2 acts.1) fromPeer (mode.trans acts.2)).2, duty, now]
    · next passed =>
      obtain ⟨-, -, stays⟩ :=
        State.takeTripNotice_passed fromPeer ((not_and_or.1 passed).imp (mt island.1) (mode ▸ ·))
      exact stays.trans duty
  · rw [← seq, ← regulator]
    exact State.takeTripNotice_unloading (island.2 inside) fromPeer (by rw [seq, unloading])
  · rw [← seq, ← regulator]
    exact State.takeTripNotice_set_stands fromPeer (passed.imp (mt island.1) (seq ▸ ·))

end Sys2Proof.Machine
end

section
/-! Islands and the sharing pool (R39 to R51): the sections that closed ties reach, what each member contributes, the
sharing mode with its causes, and what the tie inputs and the return timer make of them. -/

namespace Sys2Proof.Machine

/-! ### Sections (R40) -/

/-- A closed tie joins the two sections at its ends. -/
def TieView.Joins (v : TieView) (a b : Nat) : Prop :=
  ∃ k, v.closed k = true ∧ ((a = k ∧ b = k + 1) ∨ (a = k + 1 ∧ b = k))

theorem TieView.closed_range {v : TieView} {k : Nat} (closed : v.closed k = true) : 1 ≤ k ∧ k ≤ 3 := by
  unfold TieView.closed at closed
  split at closed
  case h_4 => cases closed
  all_goals omega

/-- A section of the island is one of the four, with every tie between it and the own section closed. -/
theorem mem_islandSections {own : Nat} (low : 1 ≤ own) (high : own ≤ 4) (v : TieView) (x : Nat) :
    x ∈ islandSections own v ↔ (1 ≤ x ∧ x ≤ 4) ∧ ∀ k, min own x ≤ k → k < max own x → v.closed k = true := by
  have four : x ∈ [1, 2, 3, 4] ↔ 1 ≤ x ∧ x ≤ 4 := by
    simp only [List.mem_cons, List.not_mem_nil, or_false]
    omega
  rw [islandSections, List.mem_filter, four, List.all_eq_true]
  simp only [decide_eq_true_eq]
  refine and_congr_right fun range => ⟨fun closed k above below => ?_, fun closed k _ between => ?_⟩
  · refine closed k ?_ ⟨above, below⟩
    simp only [List.mem_cons, List.not_mem_nil, or_false]
    omega
  · exact closed k between.1 between.2

/-- The island holds, with a section, every section that a closed tie joins to it. -/
theorem mem_islandSections_of_joins {own a b : Nat} {v : TieView} (low : 1 ≤ own) (high : own ≤ 4) (joins : v.Joins a b)
    (mem : a ∈ islandSections own v) : b ∈ islandSections own v := by
  rw [mem_islandSections low high] at mem ⊢
  obtain ⟨range, closed⟩ := mem
  obtain ⟨tie, tieClosed, ends⟩ := joins
  have tieRange := TieView.closed_range tieClosed
  refine ⟨by omega, fun k above below => ?_⟩
  by_cases same : k = tie
  · rwa [same]
  · exact closed k (by omega) (by omega)

/-- Sections between which every tie is closed reach each other. -/
theorem TieView.reaches_of_closed {v : TieView} {a b : Nat}
    (closed : ∀ k, min a b ≤ k → k < max a b → v.closed k = true) : Relation.ReflTransGen v.Joins a b := by
  rcases le_total a b with up | down
  · exact reflTransGen_of_succ_of_le _ (fun k ⟨above, below⟩ =>
      ⟨k, closed k (by omega) (by omega), .inl ⟨rfl, rfl⟩⟩) up
  · exact reflTransGen_of_succ_of_ge _ (fun k ⟨above, below⟩ =>
      ⟨k, closed k (by omega) (by omega), .inr ⟨rfl, rfl⟩⟩) down

theorem islandSections_ascending (own : Nat) (v : TieView) : (islandSections own v).Pairwise (· < ·) :=
  List.Pairwise.filter _ (by decide)

/-- Settles O27: along closed ties the island is never left, and within it every section is reached. -/
theorem sectionSetIsWhatTiesReach : Obligations.SectionSetIsWhatTiesReach := by
  intro own v low high
  refine ⟨fun x => ⟨fun mem => ?_, fun reached => ?_⟩, islandSections_ascending own v⟩
  · exact TieView.reaches_of_closed ((mem_islandSections low high v x).1 mem).2
  · induction reached with
    | refl => exact (mem_islandSections low high v own).2 ⟨⟨low, high⟩, by omega⟩
    | tail _ joins mem => exact mem_islandSections_of_joins low high joins mem

/-! ### Members and TIE_DISAGREE (R41, R43) -/

theorem EntryState.counted_iff (e : EntryState) : e.counted = true ↔ e = .live ∨ e = .stale ∨ e = .phantom := by
  cases e <;> simp [EntryState.counted]

/-- A counted entry's record lies in one of the sections (R41). -/
theorem PeerEntry.lies_iff (e : PeerEntry) (sections : List Nat) : e.lies sections = true ↔
    (e.state = .live ∨ e.state = .stale ∨ e.state = .phantom)
      ∧ ∃ r, e.record = some r ∧ r.islandSection ∈ sections := by
  simp [PeerEntry.lies, EntryState.counted_iff, Option.any_eq_true]

theorem State.mem_membersIn (s : State) (sections : List Nat) (i : Station) : i ∈ s.membersIn sections ↔ i = s.own
    ∨ (((s.entry i).state = .live ∨ (s.entry i).state = .stale ∨ (s.entry i).state = .phantom)
      ∧ ∃ r, (s.entry i).record = some r ∧ r.islandSection ∈ sections) := by
  simp [State.membersIn, stations, PeerEntry.lies_iff]

theorem State.disagrees_iff (s : State) : s.disagrees = true ↔
    ∃ i r, ((s.entry i).state = .live ∨ (s.entry i).state = .stale)
      ∧ (s.entry i).record = some r ∧ r.tieView ≠ s.island.tieView := by
  simp [State.disagrees, stations, EntryState.offered_iff, Option.any_eq_true]

/-! ### Contributions (R44 to R46) -/

theorem contributionOf_values (i : Station) (st : SetState) (flagged : Bool) (p q : Int) (rating reactive : Nat) :
    let c := contributionOf i st flagged p q rating reactive
    c.station = i ∧ c.p = p ∧ c.q = q ∧ c.rating = rating ∧ c.reactiveRating = reactive := ⟨rfl, rfl, rfl, rfl, rfl⟩

/-- The table of R44. -/
theorem contributionOf_sums (i : Station) (st : SetState) (flagged : Bool) (p q : Int) (rating reactive : Nat) :
    let c := contributionOf i st flagged p q rating reactive
    (c.inLoad = true ↔ st.online = true) ∧ (c.inCapacity = true ↔ st = .loading ∨ st = .sharing)
      ∧ (c.inPool = true ↔ st = .sharing ∧ flagged = false) := by
  cases st <;> simp [contributionOf, SetState.online]

/-- What a member contributes, with the sharing mode given. -/
def State.contributionAt (s : State) (mode : SharingMode) (i : Station) : Option Contribution :=
  if i = s.own then some (s.ownContribution mode) else peerContribution i (s.entry i)

theorem State.contributions_eq (s : State) (members : List Station) (mode : SharingMode) :
    s.contributions members mode = members.filterMap (s.contributionAt mode) := rfl

theorem State.mem_contributions (s : State) (members : List Station) (mode : SharingMode) (c : Contribution) :
    c ∈ s.contributions members mode ↔ ∃ i ∈ members, s.contributionAt mode i = some c := List.mem_filterMap

theorem State.contributionAt_own (s : State) (mode : SharingMode) :
    s.contributionAt mode s.own = some (s.ownContribution mode) := if_pos rfl

theorem State.contributionAt_peer {s : State} {i : Station} (peer : i ≠ s.own) (mode : SharingMode) :
    s.contributionAt mode i = peerContribution i (s.entry i) := if_neg peer

/-- A LIVE or STALE member contributes by the table, with the values of its record (R44). -/
theorem peerContribution_offered {i : Station} {e : PeerEntry} {r : PeerRecord} (record : e.record = some r)
    (offered : e.state = .live ∨ e.state = .stale) : peerContribution i e
      = some (contributionOf i r.setState (r.flags.droop || r.flags.stale) r.p r.q r.rating r.reactiveRating) := by
  rcases offered with state | state <;> simp [peerContribution, record, state]

/-- A PHANTOM member contributes to load and capacity (R46). -/
theorem peerContribution_phantom {i : Station} {e : PeerEntry} {r : PeerRecord} (record : e.record = some r)
    (phantom : e.state = .phantom) : peerContribution i e = some
      { station := i, inLoad := true, inCapacity := true, inPool := false, p := r.p, q := r.q
        rating := r.rating, reactiveRating := r.reactiveRating } := by
  simp [peerContribution, record, phantom]

theorem peerContribution_station {i : Station} {e : PeerEntry} {c : Contribution} (h : peerContribution i e = some c) :
    c.station = i := by
  unfold peerContribution at h
  split at h
  · cases h
  · split at h <;> cases h <;> rfl

theorem State.contributionAt_station {s : State} {mode : SharingMode} {i : Station} {c : Contribution}
    (h : s.contributionAt mode i = some c) : c.station = i := by
  unfold State.contributionAt at h
  split at h
  · next own =>
    cases h
    exact own.symm
  · exact peerContribution_station h

/-- Only members contribute. -/
theorem State.station_mem_of_mem_contributions {s : State} {members : List Station} {mode : SharingMode} {c : Contribution}
    (mem : c ∈ s.contributions members mode) : c.station ∈ members := by
  obtain ⟨i, member, contributes⟩ := (s.mem_contributions members mode c).1 mem
  rwa [State.contributionAt_station contributes]

/-- Each member contributes at most once. -/
theorem State.contributions_nodup (s : State) {members : List Station} (nodup : members.Nodup) (mode : SharingMode) :
    ((s.contributions members mode).map (·.station)).Nodup := by
  refine List.pairwise_map.2 (List.Pairwise.filterMap (R := (· ≠ ·)) _ (fun i j apart c at_i d at_j same => ?_) nodup)
  exact apart (by rw [← State.contributionAt_station at_i, ← State.contributionAt_station at_j, same])

/-- The own station's row of the table (R44, R45). -/
theorem State.ownContribution_sums (s : State) (mode : SharingMode) :
    let c := s.ownContribution mode
    (c.inLoad = true ↔ s.seq.state.online = true)
      ∧ (c.inCapacity = true ↔ s.seq.state = .loading ∨ s.seq.state = .sharing)
      ∧ (c.inPool = true ↔ s.seq.state = .sharing ∧ mode = .isoch ∧ s.composer.meterFail = false) := by
  obtain ⟨load, capacity, pool⟩ := contributionOf_sums s.own s.seq.state (mode == .droop || s.composer.meterFail)
    s.island.ownP s.island.ownQ s.conf.rating s.conf.reactiveRating
  refine ⟨load, capacity, pool.trans (and_congr_right fun _ => ?_)⟩
  cases mode <;> simp

/-! ### The sharing mode (R49, R50) -/

theorem State.droopCause_iff (s : State) (members : List Station) (disagree : Bool) :
    s.droopCause members disagree = true ↔ s.loader.mode ≠ .run ∨ disagree = true ∨ s.composer.meterFail = true
      ∨ ∃ i ∈ members, i ≠ s.own ∧ (s.entry i).state = .phantom := by
  simp only [State.droopCause, State.mode, Bool.or_eq_true, List.any_eq_true, Bool.and_eq_true, bne_iff_ne, beq_iff_eq,
    or_comm, or_left_comm]

/-- An active cause gives DROOP with the return timer stopped. -/
theorem nextSharing_of_cause {cause : Bool} (active : cause = true) (mode : SharingMode) (timer : Timer) (now : Nat) :
    nextSharing mode timer cause now = (.droop, none) := if_pos active

/-- Without a cause a card in DROOP starts its stopped timer. -/
theorem nextSharing_starts {cause : Bool} (clear : ¬ cause = true) (now : Nat) :
    nextSharing .droop none cause now = (.droop, some (now + 2000000)) := if_neg clear

/-- Without a cause ISOCH and a running timer stand. -/
theorem nextSharing_stands {mode : SharingMode} {timer : Timer} {cause : Bool} (clear : ¬ cause = true)
    (settled : mode = .isoch ∨ timer ≠ none) (now : Nat) : nextSharing mode timer cause now = (mode, timer) := by
  rcases settled with rfl | running
  · exact if_neg clear
  · obtain ⟨d, rfl⟩ := Option.ne_none_iff_exists'.1 running
    cases mode <;> exact if_neg clear

/-- A cause as the island stands (R49). -/
def State.causeNow (s : State) : Bool := s.droopCause s.resolve.island.members s.resolve.island.tieDisagree

theorem State.resolve_sharing (s : State) : (s.resolve.island.mode, s.resolve.island.returnTimer)
    = nextSharing s.island.mode s.island.returnTimer s.causeNow s.now := rfl

theorem State.resolve_of_sharing {s : State} {mode : SharingMode} {timer : Timer}
    (next : nextSharing s.island.mode s.island.returnTimer s.causeNow s.now = (mode, timer)) :
    s.resolve.island.mode = mode ∧ s.resolve.island.returnTimer = timer :=
  Prod.mk.inj (s.resolve_sharing.trans next)

/-- The DROOP output follows the mode (R51). -/
theorem State.resolve_droopOut (s : State) : s.resolve.island.droopOut = true ↔ s.resolve.island.mode = .droop :=
  decide_eq_true_iff

theorem State.resolve_tieDisagree (s : State) : s.resolve.island.tieDisagree = s.disagrees := rfl

/-- Settles O29, from the members, the table of contributions and the table of the sharing mode. -/
theorem peerContributesByItsState : Obligations.PeerContributesByItsState := by
  intro s t sections cs capacity pool values cause
  have member (i : Station) := s.mem_membersIn sections i
  have causes : s.causeNow = true ↔ cause := s.droopCause_iff t.island.members t.island.tieDisagree
  have contributes {i : Station} {c : Contribution} (mem : i ∈ t.island.members)
      (at_i : s.contributionAt t.island.mode i = some c) : c ∈ cs := (s.mem_contributions _ _ c).2 ⟨i, mem, at_i⟩
  refine ⟨member, s.contributions_nodup (s.membersIn_nodup sections) _,
    fun c mem => State.station_mem_of_mem_contributions mem,
    ⟨s.ownContribution t.island.mode, contributes ((member s.own).2 (.inl rfl)) (s.contributionAt_own _),
      contributionOf_values .., s.ownContribution_sums _⟩,
    fun i r peer record inside => ⟨fun offered => ?_, fun phantom => ?_⟩,
    rfl, rfl, rfl, rfl, rfl, rfl, rfl, rfl, ?_, s.disagrees_iff, fun active => ?_, fun clear droop stopped => ?_,
    fun clear stands => ?_, s.resolve_droopOut⟩
  · refine ⟨_, contributes ((member i).2 (.inr ⟨by tauto, r, record, inside⟩))
      ((State.contributionAt_peer peer _).trans (peerContribution_offered record offered)), contributionOf_values .., ?_⟩
    simpa only [Bool.or_eq_false_iff] using contributionOf_sums i r.setState (r.flags.droop || r.flags.stale) r.p r.q
      r.rating r.reactiveRating
  · exact ⟨_, contributes ((member i).2 (.inr ⟨.inr (.inr phantom), r, record, inside⟩))
      ((State.contributionAt_peer peer _).trans (peerContribution_phantom record phantom)), rfl, rfl, rfl, rfl, rfl, rfl,
      rfl⟩
  · show s.busFrequency = _
    cases latest : s.metering.latest <;> simp [State.busFrequency, latest]
  · exact State.resolve_of_sharing (nextSharing_of_cause (causes.2 active) _ _ _)
  · refine State.resolve_of_sharing ?_
    rw [droop, stopped]
    exact nextSharing_starts (mt causes.1 clear) _
  · exact State.resolve_of_sharing (nextSharing_stands (mt causes.1 clear) stands _)

/-! ### The tie inputs (R39) -/

/-- A changed tie level starts the tie's filter, or stops it where the level is back at the filtered state. -/
theorem exec_tieInputChange {s : State} {tie : Fin 3} {closed : Bool} (awake : s.Awake) (changed : s.pins.ties[tie] ≠ closed) :
    exec (.tieInputChange tie closed) s = .next ((s.setTiePin tie closed).setFilter tie
      (if closed = s.island.tieView.at tie then none else some (s.now + 50000))) := by
  show execTieInputChange tie closed s = _
  have stillAwake : (s.setTiePin tie closed).awake = true := awake.awake
  rw [execTieInputChange, if_neg changed]
  dsimp only
  rw [if_pos stillAwake]
  split
  · next back => rw [if_pos (show closed = s.island.tieView.at tie from back)]
  · next apart =>
    rw [if_neg (show ¬ closed = s.island.tieView.at tie from apart)]
    rfl

/-- The card with a tie's level taken, before the change is taken up (R39). -/
def State.atTieFilter (s : State) (tie : Fin 3) (d : Nat) : State :=
  { s.advanceTo d with island := { s.island with
    tieView := s.island.tieView.set tie s.pins.ties[tie], tieFilters := s.island.tieFilters.set tie none } }

theorem exec_tieFilterExpiry {s : State} {tie : Fin 3} {d : Nat} (awake : s.Awake)
    (running : s.island.tieFilters[tie] = some d) :
    exec (.tieFilterExpiry tie) s = .next (s.atTieFilter tie d).spread.finish := by
  show execTieFilterExpiry tie s = _
  rw [execTieFilterExpiry, onExpiry_of awake running]
  rfl

/-- The sections of a settled card are those of its tie view (R40). -/
theorem State.Settled.sections {s : State} (h : s.Settled) :
    s.island.sections = islandSections s.conf.ownSection s.island.tieView := by
  conv_lhs => rw [← h.1]
  rfl

theorem State.Settled.tieDisagree_iff {s : State} (h : s.Settled) : s.island.tieDisagree = true ↔
    ∃ i r, ((s.entry i).state = .live ∨ (s.entry i).state = .stale)
      ∧ (s.entry i).record = some r ∧ r.tieView ≠ s.island.tieView := by
  rw [← s.disagrees_iff, ← s.resolve_tieDisagree, h.1]

/-- TIE_DISAGREE holds a settled card in DROOP, with its latch set (R43, R49, R177). -/
theorem State.Settled.droop_of_tieDisagree {s : State} (h : s.Settled) (disagrees : s.island.tieDisagree = true) :
    s.island.mode = .droop ∧ .tieDisagree ∈ s.alarms.latched := by
  obtain ⟨resolved, -, -, latched, -⟩ := h
  have active : s.causeNow = true := (s.droopCause_iff _ _).2 (.inr (.inl (by rw [resolved, disagrees])))
  have droop := (State.resolve_of_sharing (nextSharing_of_cause active _ _ _)).1
  rw [resolved] at droop
  exact ⟨droop, latched _ disagrees⟩

/-- Settles O26: the level taken is a change that the ladder and the end of the event take up. -/
theorem tieInputsReshapeTheIsland : Obligations.TieInputsReshapeTheIsland := by
  intro s tie awake
  refine ⟨fun closed changed => exec_tieInputChange awake changed, fun d running => ?_⟩
  obtain ⟨followed, spread⟩ := State.spread_finish_followed (s := s) (b := s.atTieFilter tie d) rfl rfl rfl rfl
  refine ⟨_, exec_tieFilterExpiry awake running, followed, spread, ?_⟩
  obtain ⟨⟨stands, -, settled, -⟩, -⟩ := followed
  generalize (s.atTieFilter tie d).spread.finish = t at stands settled ⊢
  have peers (i : Station) : t.entry i = s.entry i := by
    rw [State.entry, stands .peers (by decide)]
    rfl
  have conf : t.conf = s.conf := by
    rw [State.conf, stands .loader (by decide)]
    rfl
  refine ⟨conf ▸ settled.sections, ?_, settled.droop_of_tieDisagree⟩
  simpa only [peers] using settled.tieDisagree_iff

/-! ### The return timer (R50, R51) -/

/-- The card at the return timer's expiry, before the end of the event. -/
def State.atReturnTimer (s : State) (d : Nat) : State :=
  { s.advanceTo d with island := { s.island with mode := .isoch, returnTimer := none } }

theorem exec_returnTimerExpiry {s : State} {d : Nat} (awake : s.Awake) (running : s.island.returnTimer = some d) :
    exec .returnTimerExpiry s = .next (s.atReturnTimer d).settle := by
  show execReturnTimerExpiry s = _
  rw [execReturnTimerExpiry, onExpiry_of awake running]
  rfl

/-- In an island that is up to date the timer runs only while no cause is active (R50). -/
theorem State.causeNow_of_running {s : State} {d : Nat} (resolved : s.resolve = s) (running : s.island.returnTimer = some d) :
    ¬ s.causeNow = true := by
  intro active
  have stopped := (State.resolve_of_sharing (nextSharing_of_cause active s.island.mode s.island.returnTimer s.now)).2
  rw [resolved, running] at stopped
  cases stopped

/-- Settles O28: the timer has run, so that no cause is active, and ISOCH stands through the recomputation. -/
theorem returnTimerBringsIsoch : Obligations.ReturnTimerBringsIsoch := by
  rintro s d awake ⟨-, -, current⟩ running
  have same : (s.atReturnTimer d).causeNow = s.causeNow := rfl
  have clear := same ▸ State.causeNow_of_running (current awake.2) running
  obtain ⟨mode, timer⟩ := State.resolve_of_sharing (s := s.atReturnTimer d) (nextSharing_stands clear (.inl rfl) _)
  refine ⟨_, exec_returnTimerExpiry awake running, State.settle_settles _, State.settle_laneA _, State.settle_laneB _,
    State.settle_composer _, mode, ?_, timer⟩
  show (s.atReturnTimer d).resolve.island.droopOut = false
  rw [← Bool.not_eq_true, State.resolve_droopOut, show (s.atReturnTimer d).resolve.island.mode = .isoch from mode]
  simp

end Sys2Proof.Machine
end

section
/-! The card's outputs through every operation (R59, R72 to R74, R77, R79, R82, R95, R114, R116, R153, R158): what the biases,
the engine pulses, the group pulses and the claims depend on, and what each operation on them leaves. -/

namespace Sys2Proof.Machine

/-! ### The outputs kept -/

/-- From `s` to `t` the outputs stay safe, each of them for itself. -/
structure State.KeepsOutputs (s t : State) : Prop where
  biases : s.BiasesSafe → t.BiasesSafe
  engine : s.EngineSafe → t.EngineSafe
  pulses : s.PulsesSafe → t.PulsesSafe
  grants : s.GrantsSafe → t.GrantsSafe
  marks : s.MarksSafe → t.MarksSafe

theorem State.KeepsOutputs.refl (s : State) : s.KeepsOutputs s := ⟨id, id, id, id, id⟩

theorem State.KeepsOutputs.trans {s t u : State} (h : s.KeepsOutputs t) (k : t.KeepsOutputs u) : s.KeepsOutputs u :=
  ⟨k.biases ∘ h.biases, k.engine ∘ h.engine, k.pulses ∘ h.pulses, k.grants ∘ h.grants, k.marks ∘ h.marks⟩

/-- A step of an event that is made or not. -/
theorem State.KeepsOutputs.ite {s t u : State} {c : Prop} [Decidable c] (h : s.KeepsOutputs t)
    (k : c → t.KeepsOutputs u) : s.KeepsOutputs (if c then u else t) := by
  split
  · next made => exact h.trans (k made)
  · exact h

/-- A fold of operations that keep the outputs keeps them. -/
theorem State.KeepsOutputs.foldl {α : Type} {f : State → α → State} (hf : ∀ (s : State) (a : α), s.KeepsOutputs (f s a))
    (xs : List α) (s : State) : s.KeepsOutputs (xs.foldl f s) := by
  induction xs generalizing s with
  | nil => exact .refl s
  | cons x xs ih => exact (hf s x).trans (ih _)

/-! ### The biases (R72 to R74) -/

/-- A bias within ±10,000 stands for a voltage within ±3 V (R74). -/
theorem biasVolts_range {b : Int} (h : -10000 ≤ b ∧ b ≤ 10000) : -3 ≤ biasVolts b ∧ biasVolts b ≤ 3 := by
  have low : (-10000 : ℚ) ≤ b := by exact_mod_cast h.1
  have high : (b : ℚ) ≤ 10000 := by exact_mod_cast h.2
  unfold biasVolts
  constructor <;> linarith

/-- The voltages follow from the biases, so that the biases alone are to be looked at. -/
theorem State.biasesSafe_iff (s : State) : s.BiasesSafe ↔
    (-10000 ≤ s.regulator.speedBias ∧ s.regulator.speedBias ≤ 10000)
      ∧ (-10000 ≤ s.regulator.voltBias ∧ s.regulator.voltBias ≤ 10000)
      ∧ (s.loader.mode ≠ .run ∨ s.seq.state.online = false → s.regulator.speedBias = 0 ∧ s.regulator.voltBias = 0) :=
  ⟨fun ⟨speed, volt, zero, _⟩ => ⟨speed, volt, zero⟩,
    fun ⟨speed, volt, zero⟩ => ⟨speed, volt, zero, biasVolts_range speed, biasVolts_range volt⟩⟩

theorem State.BiasesSafe.congr {s t : State} (h : s.BiasesSafe) (speed : t.regulator.speedBias = s.regulator.speedBias)
    (volt : t.regulator.voltBias = s.regulator.voltBias)
    (off : t.loader.mode ≠ .run ∨ t.seq.state.online = false → s.loader.mode ≠ .run ∨ s.seq.state.online = false) :
    t.BiasesSafe := by
  rw [State.biasesSafe_iff] at h ⊢
  rw [speed, volt]
  exact ⟨h.1, h.2.1, h.2.2 ∘ off⟩

/-- A change of the set state keeps the biases or sets both to 0; into STARTING a set comes from a state off the bus. -/
theorem State.BiasesSafe.onState {s t : State} (h : s.BiasesSafe) {st : SetState} {run : Bool} {p : Int}
    (regulator : t.regulator = s.regulator.onState st run p) (state : t.seq.state = st) (loader : t.loader = s.loader)
    (starts : st = .starting → s.seq.state.online = false) : t.BiasesSafe := by
  by_cases off : st.offBus = true
  · rw [State.biasesSafe_iff, regulator]
    simp [Regulator.onState, off]
  · refine h.congr ?_ ?_ ?_
    · simp [regulator, Regulator.onState, off]
    · simp [regulator, Regulator.onState, off]
    · rw [loader, state]
      rintro (mode | offline)
      · exact .inl mode
      · refine .inr (starts ?_)
        cases st <;> simp_all [SetState.offBus, SetState.online]

/-! ### The engine outputs (R77, R79, R82) -/

/-- CLOSE PERMIT is released while the set is not STARTING (R82). -/
theorem State.EngineSafe.permit_released {s : State} (h : s.EngineSafe) (other : s.seq.state ≠ .starting)
    (supplied : s.powered = true) : s.seq.closePermit = false := by
  simpa [other] using h.2.2 supplied

/-- A set in a state that only RUN reaches stands in RUN (R79). -/
theorem State.EngineSafe.run_of_state {s : State} (h : s.EngineSafe)
    (only : s.seq.state ∉ [SetState.off, .standby, .loading, .tripped]) : s.loader.mode = .run := by
  by_contra quiet
  exact only (h.2.1 quiet).1

/-- Evaluations are made in RUN (R95). -/
theorem State.EngineSafe.run_of_evaluation {s : State} (h : s.EngineSafe) (runs : s.duty.evaluation ≠ none) :
    s.loader.mode = .run := by
  by_contra quiet
  exact runs (h.2.1 quiet).2

/-- A change of the sequencer's own fields. -/
theorem State.EngineSafe.of_seq {s t : State} (h : s.EngineSafe) (frame : s.keepsBut t [.seq, .regulator, .composer, .island])
    (pulses : t.seq.startPulse.isSome → t.seq.stopPulse = none)
    (state : s.loader.mode ≠ .run → t.seq.state ∈ [SetState.off, .standby, .loading, .tripped])
    (permit : s.powered = true → t.seq.closePermit = (decide (t.seq.state = .starting) && s.pins.running)) :
    t.EngineSafe := by
  have loader : t.loader = s.loader := frame .loader (by decide)
  have duty : t.duty = s.duty := frame .duty (by decide)
  have pins : t.pins = s.pins := frame .pins (by decide)
  have powered : t.powered = s.powered := frame .supply (by decide)
  refine ⟨pulses, ?_, ?_⟩
  · rw [loader, duty]
    exact fun quiet => ⟨state quiet, (h.2.1 quiet).2⟩
  · rw [powered, pins]
    exact permit

/-! ### What an operation may leave alone -/

theorem State.PulsesSafe.congr {s t : State} (h : s.PulsesSafe) (now : s.now ≤ t.now) (groups : t.groups = s.groups) :
    t.PulsesSafe := by
  intro i a trip
  rw [State.channel, groups] at trip
  obtain ⟨near, spaced, closed⟩ := h i a trip
  rw [groups, State.channel, groups]
  exact ⟨by omega, spaced.imp_left (le_trans · now), fun b close => (closed b close).trans now⟩

/-- The outputs depend on the biases, the sequencer, the groups, the claims, the clock, the supply, RUNNING, and on whether
the card is in RUN with its evaluation timer. -/
theorem State.KeepsOutputs.of_stands {s t : State} (regulator : t.regulator = s.regulator) (seq : t.seq = s.seq)
    (groups : t.groups = s.groups) (claims : t.admission.claims = s.admission.claims) (now : s.now ≤ t.now)
    (powered : t.powered = true → s.powered = true) (running : t.pins.running = s.pins.running)
    (mode : t.loader.mode ≠ .run → s.loader.mode ≠ .run)
    (evaluation : t.loader.mode ≠ .run → s.duty.evaluation = none → t.duty.evaluation = none) : s.KeepsOutputs t where
  biases h := h.congr (by rw [regulator]) (by rw [regulator]) (by rw [seq]; exact Or.imp_left mode)
  engine h := by
    obtain ⟨pulses, quiet, permit⟩ := h
    refine ⟨by rwa [seq], fun m => ?_, fun p => ?_⟩
    · obtain ⟨state, off⟩ := quiet (mode m)
      exact ⟨by rwa [seq], evaluation m off⟩
    · rw [seq, running]
      exact permit (powered p)
  pulses h := h.congr now groups
  grants h := by
    unfold State.GrantsSafe State.claim at h ⊢
    rwa [claims]
  marks h := by
    unfold State.MarksSafe State.claim at h ⊢
    rwa [claims]

/-- The blocks, the clock apart, on which no output depends. -/
def blocksBehind : List Block :=
  [.laneA, .laneB, .linkOk, .composer, .rx, .peers, .island, .metering, .ladder, .service, .alarms, .queue]

/-- An operation that touches none of the blocks concerned. -/
theorem State.keepsBut.keepsOutputs {s t : State} {bs : List Block} (h : s.keepsBut t bs)
    (behind : bs ⊆ blocksBehind := by decide) : s.KeepsOutputs t := by
  have stands (b : Block) (apart : b ∉ blocksBehind) : b.same s t := h b fun mem => apart (behind mem)
  have regulator : t.regulator = s.regulator := stands .regulator (by decide)
  have seq : t.seq = s.seq := stands .seq (by decide)
  have groups : t.groups = s.groups := stands .groups (by decide)
  have admission : t.admission = s.admission := stands .admission (by decide)
  have now : t.now = s.now := stands .clock (by decide)
  have powered : t.powered = s.powered := stands .supply (by decide)
  have pins : t.pins = s.pins := stands .pins (by decide)
  have loader : t.loader = s.loader := stands .loader (by decide)
  have duty : t.duty = s.duty := stands .duty (by decide)
  exact .of_stands regulator seq groups (by rw [admission]) now.ge (by rw [powered]; exact id) (by rw [pins])
    (by rw [loader]; exact id) (by rw [duty]; exact fun _ => id)

theorem State.advanceTo_keepsOutputs (s : State) (d : Nat) : s.KeepsOutputs (s.advanceTo d) :=
  .of_stands rfl rfl rfl rfl (le_max_left _ _) id rfl id fun _ => id

theorem State.finish_keepsOutputs (s : State) : s.KeepsOutputs s.finish := s.finish_frame.keepsOutputs

theorem State.raise_keepsOutputs (s : State) (k : AlarmKind) : s.KeepsOutputs (s.raise k) :=
  (s.raise_frame k).keepsOutputs

theorem State.setLane_keepsOutputs (s : State) (l : LaneId) (x : LaneIf) : s.KeepsOutputs (s.setLane l x) :=
  (s.setLane_frame l x).keepsOutputs

theorem State.setEntry_keepsOutputs (s : State) (i : Station) (e : PeerEntry) : s.KeepsOutputs (s.setEntry i e) :=
  (s.setEntry_frame i e).keepsOutputs

/-! ### The set sequencer's operations -/

/-- An operation on the set that leaves the group pulses and the claims. -/
theorem State.KeepsOutputs.of_set {s t : State} (frame : s.keepsBut t [.seq, .regulator, .composer, .island])
    (biases : s.BiasesSafe → t.BiasesSafe) (engine : s.EngineSafe → t.EngineSafe) : s.KeepsOutputs t := by
  have groups : t.groups = s.groups := frame .groups (by decide)
  have admission : t.admission = s.admission := frame .admission (by decide)
  have now : t.now = s.now := frame .clock (by decide)
  refine ⟨biases, engine, fun h => h.congr now.ge groups, fun h => ?_, fun h => ?_⟩
  · unfold State.GrantsSafe State.claim at h ⊢
    rwa [admission]
  · unfold State.MarksSafe State.claim at h ⊢
    rwa [admission]

/-- A change of the sequencer's timers and marks, in the same set state. -/
theorem Sequencer.set_keepsOutputs (s : State) (q : Sequencer) (state : q.state = s.seq.state)
    (permit : q.closePermit = s.seq.closePermit)
    (pulses : (s.seq.startPulse.isSome → s.seq.stopPulse = none) → q.startPulse.isSome → q.stopPulse = none) :
    s.KeepsOutputs { s with seq := q } := by
  refine .of_set ((Sequencer.set_frame s q).mono (by decide)) (fun h => h.congr rfl rfl (by simp [state])) fun h => ?_
  exact h.of_seq ((Sequencer.set_frame s q).mono (by decide)) (pulses h.1) (fun quiet => state ▸ (h.2.1 quiet).1)
    (fun supplied => by rw [state, permit]; exact h.2.2 supplied)

theorem State.issueStop_keepsOutputs (s : State) : s.KeepsOutputs s.issueStop := by
  unfold State.issueStop
  split
  · exact Sequencer.set_keepsOutputs s _ rfl rfl id
  · next idle => exact Sequencer.set_keepsOutputs s _ rfl rfl fun _ active => absurd active idle

theorem State.endSetPulse_keepsOutputs (s : State) (which : SetPulse) : s.KeepsOutputs (s.endSetPulse which) := by
  unfold State.endSetPulse
  split
  · split <;> exact Sequencer.set_keepsOutputs s _ rfl rfl (by simp)
  · exact Sequencer.set_keepsOutputs s _ rfl rfl (by simp)
  · exact Sequencer.set_keepsOutputs s _ rfl rfl id

/-- A change of the set state to another one than STARTING, after a change of the sequencer's timers and marks. -/
theorem State.setSetState_keepsOutputs (s : State) (q : Sequencer) {st : SetState} (other : st ≠ .starting)
    (start : q.startPulse = s.seq.startPulse) (stop : q.stopPulse = s.seq.stopPulse)
    (permit : s.EngineSafe → s.powered = true → q.closePermit = false)
    (state : s.EngineSafe → s.loader.mode ≠ .run → st ∈ [SetState.off, .standby, .loading, .tripped]) :
    s.KeepsOutputs (State.setSetState { s with seq := q } st) := by
  have frame : s.keepsBut (State.setSetState { s with seq := q } st) [.seq, .regulator, .composer, .island] :=
    (Sequencer.set_frame s q).comp (State.setSetState_frame _ st)
  refine .of_set frame (fun h => ?_) fun h => ?_
  · exact h.onState (State.setSetState_regulator _ st) (by simp) (by simp) fun starts => absurd starts other
  · refine h.of_seq frame ?_ ?_ ?_
    · simpa [start, stop] using h.1
    · simpa using state h
    · simpa [other] using permit h

/-- A change of the set state from another one than STARTING, with CLOSE PERMIT released before it and after it. -/
theorem State.changeState_keepsOutputs (s : State) (q : Sequencer) {st : SetState} (before : s.seq.state ≠ .starting)
    (other : st ≠ .starting) (start : q.startPulse = s.seq.startPulse) (stop : q.stopPulse = s.seq.stopPulse)
    (permit : q.closePermit = s.seq.closePermit)
    (state : s.EngineSafe → s.loader.mode ≠ .run → st ∈ [SetState.off, .standby, .loading, .tripped]) :
    s.KeepsOutputs (State.setSetState { s with seq := q } st) :=
  s.setSetState_keepsOutputs q other start stop (fun h => permit ▸ h.permit_released before) state

/-- The start decision comes with an evaluation, which is made in RUN alone (R81, R82, R95). -/
theorem State.takeStart_keepsOutputs (s : State) (runs : s.duty.evaluation ≠ none) : s.KeepsOutputs s.takeStart := by
  unfold State.takeStart
  split
  · next may =>
    have frame := s.takeStart_frame
    rw [State.takeStart, if_pos may] at frame
    obtain ⟨standby, noStop, -⟩ := may
    refine .of_set frame (fun h => ?_) fun h => ?_
    · exact h.onState (State.setSetState_regulator _ .starting) (by simp) (by simp [State.issueStart])
        fun _ => by rw [standby]; rfl
    · refine h.of_seq frame ?_ (absurd (h.run_of_evaluation runs)) ?_
      · simp [State.issueStart, noStop]
      · simp [State.issueStart]
  · exact .refl s

theorem State.closeOnBus_keepsOutputs (s : State) : s.KeepsOutputs s.closeOnBus :=
  s.setSetState_keepsOutputs _ (by simp) rfl rfl (fun _ _ => rfl) (by simp)

theorem State.leaveStarting_keepsOutputs (s : State) (starting : s.seq.state = .starting) {st : SetState}
    (other : st ≠ .starting) : s.KeepsOutputs (s.leaveStarting st) :=
  s.setSetState_keepsOutputs _ other rfl rfl (fun _ _ => rfl) fun h =>
    absurd (h.run_of_state (by rw [starting]; decide))

/-- UNLOADING is entered from SHARING, and so in RUN (R79, R90). -/
theorem State.enterUnloading_keepsOutputs (s : State) (k : UnloadKind) (sharing : s.seq.state = .sharing) :
    s.KeepsOutputs (s.enterUnloading k) :=
  s.changeState_keepsOutputs _ (by simp [sharing]) (by simp) rfl rfl rfl fun h =>
    absurd (h.run_of_state (by rw [sharing]; decide))

theorem State.judgeUnload_keepsOutputs (s : State) (sharing : s.seq.state = .sharing) : s.KeepsOutputs s.judgeUnload := by
  unfold State.judgeUnload
  split
  · exact s.enterUnloading_keepsOutputs _ sharing
  · exact s.raise_keepsOutputs _

/-- The loading-complete notice comes with a worked record, and so in RUN (R59, R86). -/
theorem State.takeLoadingComplete_keepsOutputs (s : State) (run : s.loader.mode = .run) :
    s.KeepsOutputs s.takeLoadingComplete := by
  unfold State.takeLoadingComplete
  split
  · next loading =>
    have shares : s.KeepsOutputs (s.setSetState .sharing) :=
      s.changeState_keepsOutputs s.seq (by simp [loading]) (by simp) rfl rfl rfl fun _ => absurd run
    dsimp only
    split
    · have sharing : (s.setSetState .sharing).seq.state = .sharing := by simp
      exact (shares.trans (Sequencer.set_keepsOutputs _
        { (s.setSetState .sharing).seq with pendingUnload := false } rfl rfl id)).trans
        (State.judgeUnload_keepsOutputs _ sharing)
    · exact shares
  · exact .refl s

theorem State.takeUnloaded_keepsOutputs (s : State) : s.KeepsOutputs s.takeUnloaded := by
  unfold State.takeUnloaded
  split
  · next unloading =>
    exact s.changeState_keepsOutputs _ (by simp [unloading]) (by simp) rfl rfl rfl fun h =>
      absurd (h.run_of_state (by rw [unloading]; decide))
  · exact .refl s

/-- SHARING is entered again from UNLOADING or OPENING, and so in RUN (R79, R91, R92, R94). -/
theorem State.returnToSharing_keepsOutputs (s : State) (returns : s.seq.state = .unloading ∨ s.seq.state = .opening) :
    s.KeepsOutputs s.returnToSharing := by
  rcases returns with state | state <;>
    exact s.changeState_keepsOutputs _ (by simp [state]) (by simp) rfl rfl rfl fun h =>
      absurd (h.run_of_state (by rw [state]; decide))

theorem State.abortUnload_keepsOutputs (s : State) : s.KeepsOutputs s.abortUnload := by
  unfold State.abortUnload
  split
  · next unloading => exact s.returnToSharing_keepsOutputs (.inl unloading)
  · exact .refl s

theorem State.takeStop_keepsOutputs (s : State) : s.KeepsOutputs s.takeStop := by
  unfold State.takeStop
  split
  · next sharing => exact s.enterUnloading_keepsOutputs _ sharing
  · exact .refl s

/-! ### The group pulses (R114, R116) -/

/-- An operation on the groups that leaves the set and the claims. -/
theorem State.KeepsOutputs.of_groups {s t : State} (frame : s.keepsBut t [.groups]) (pulses : s.PulsesSafe → t.PulsesSafe) :
    s.KeepsOutputs t := by
  have behind : State.KeepsOutputs s { t with groups := s.groups } := by
    refine State.keepsBut.keepsOutputs (bs := []) fun b _ => ?_
    have same := frame b
    cases b <;> first | rfl | exact same (by decide)
  exact ⟨behind.biases, behind.engine, pulses, behind.grants, behind.marks⟩

/-- A channel's pulses stand or end. -/
theorem State.setChannel_keepsOutputs (s : State) (i : Fin 6) (c : Channel)
    (trip : c.trip = (s.channel i).trip ∨ c.trip = none) (close : c.close = (s.channel i).close ∨ c.close = none) :
    s.KeepsOutputs (s.setChannel i c) := by
  refine .of_groups (s.setChannel_frame i c) fun h j a tripping => ?_
  by_cases same : i = j
  · subst same
    rw [State.channel_setChannel] at tripping ⊢
    obtain ⟨near, spaced, closed⟩ := h i a (by rcases trip with e | e <;> simp_all)
    exact ⟨near, spaced, fun b closing => closed b (by rcases close with e | e <;> simp_all)⟩
  · rw [State.channel_setChannel_ne s c same] at tripping ⊢
    exact h j a tripping

/-- A change of a group's state, its marks or its window leaves its pulses. -/
theorem State.setGroupState_keepsOutputs (s : State) (i : Fin 6) (st : GroupState) :
    s.KeepsOutputs (s.setGroupState i st) :=
  ((s.setChannel_keepsOutputs i { s.channel i with state := some st } (.inl rfl) (.inl rfl)).trans
    (State.request_frame _ .urgent).keepsOutputs).trans (State.relist_frame _).keepsOutputs

theorem State.startWindow_keepsOutputs (s : State) (i : Fin 6) : s.KeepsOutputs (s.startWindow i) :=
  s.setChannel_keepsOutputs i _ (.inl rfl) (.inl rfl)

/-- A TRIP pulse starts while the group's CLOSE pulse does not run, and starts the close spacing timer afresh. -/
theorem State.startTrip_keepsOutputs (s : State) (i : Fin 6) (released : (s.channel i).close = none) :
    s.KeepsOutputs (s.startTrip i) := by
  have channel (j : Fin 6) : (s.startTrip i).channel j
      = if i = j then { s.channel i with trip := some (s.now + 200000), tripHeld := false } else s.channel j := by
    split
    · next same => exact same ▸ s.channel_setChannel i _
    · next other => exact s.channel_setChannel_ne _ other
  have spacing : (s.startTrip i).groups.closeSpacing = some (s.now + 10000000) := rfl
  refine .of_groups (s.startTrip_frame i) fun h j a tripping => ?_
  rw [channel] at tripping ⊢
  have near : a ≤ s.now + 200000 := by
    split at tripping
    · simp at tripping
      omega
    · exact (h j a tripping).1
  refine ⟨near, .inr ⟨_, spacing, by omega⟩, fun b closing => ?_⟩
  split at closing
  · simp [released] at closing
  · rw [if_neg ‹_›] at tripping
    exact (h j a tripping).2.2 b closing

/-- A CLOSE pulse starts while the close spacing timer does not run, and so once every TRIP pulse is over. -/
theorem State.startClose_keepsOutputs (s : State) (i : Fin 6) (idle : s.groups.closeSpacing = none) :
    s.KeepsOutputs (s.startClose i) := by
  have channel (j : Fin 6) : (s.startClose i).channel j
      = if i = j then { s.channel i with close := some (s.now + 200000) } else s.channel j := by
    split
    · next same => exact same ▸ s.channel_setChannel i _
    · next other => exact s.channel_setChannel_ne _ other
  have trip (j : Fin 6) : ((s.startClose i).channel j).trip = (s.channel j).trip := by
    rw [channel]
    split
    · next same => rw [same]
    · rfl
  refine .of_groups (s.startClose_frame i) fun h j a tripping => ?_
  obtain ⟨near, spaced, -⟩ := h j a (trip j ▸ tripping)
  have ended : a ≤ s.now := spaced.resolve_right (by simp [idle])
  exact ⟨near, .inl ended, fun _ _ => ended⟩

theorem State.issueTrip_keepsOutputs (s : State) (i : Fin 6) : s.KeepsOutputs (s.issueTrip i) := by
  unfold State.issueTrip
  split
  · exact s.setChannel_keepsOutputs i _ (.inl rfl) (.inl rfl)
  · next idle => exact s.startTrip_keepsOutputs i (by simpa using idle)

theorem State.commandShed_keepsOutputs (s : State) (i : Fin 6) : s.KeepsOutputs (s.commandShed i) := by
  refine s.resetAge_frame.keepsOutputs.trans ?_
  unfold State.commandShed State.takeShed
  split
  · exact ((State.setGroupState_keepsOutputs _ i _).trans (State.startWindow_keepsOutputs _ i)).trans
      (State.issueTrip_keepsOutputs _ i)
  · exact .refl _

theorem State.commandRestore_keepsOutputs (s : State) (i : Fin 6) : s.KeepsOutputs (s.commandRestore i) := by
  refine s.resetAge_frame.keepsOutputs.trans ?_
  unfold State.commandRestore State.takeRestore
  split
  · next may =>
    refine ((State.setGroupState_keepsOutputs _ i _).trans (State.startWindow_keepsOutputs _ i)).trans
      (State.startClose_keepsOutputs _ i ?_)
    simpa [State.startWindow] using may.2
  · exact .refl _

/-- The end of a pulse; a TRIP held back starts as CLOSE has ended (R116). -/
theorem State.endGroupPulse_keepsOutputs (s : State) (i : Fin 6) (which : GroupPulse) :
    s.KeepsOutputs (s.endGroupPulse i which) := by
  unfold State.endGroupPulse
  split
  · exact s.setChannel_keepsOutputs i _ (.inr rfl) (.inl rfl)
  · exact .ite (s.setChannel_keepsOutputs i _ (.inl rfl) (.inr rfl)) fun _ =>
      State.startTrip_keepsOutputs _ i (by simp)

/-! ### The ladder's operations -/

theorem Ladder.set_keepsOutputs (s : State) (l : Ladder) : s.KeepsOutputs { s with ladder := l } :=
  (Ladder.set_frame s l).keepsOutputs

theorem State.takeStep_keepsOutputs (s : State) : s.KeepsOutputs s.takeStep := by
  unfold State.takeStep
  split
  · exact s.raise_keepsOutputs _
  · split
    · exact s.commandShed_keepsOutputs _
    · exact Ladder.set_keepsOutputs s _

theorem State.nextStep_keepsOutputs (s : State) : s.KeepsOutputs s.nextStep :=
  .ite (.refl s) fun _ => (Ladder.set_keepsOutputs s _).trans (State.takeStep_keepsOutputs _)

theorem State.requestStep_keepsOutputs (s : State) : s.KeepsOutputs s.requestStep := by
  unfold State.requestStep
  split
  · exact s.takeStep_keepsOutputs
  · exact Ladder.set_keepsOutputs s _

theorem State.spread_keepsOutputs (s : State) : s.KeepsOutputs s.spread := by
  refine s.resolve_frame.keepsOutputs.trans ?_
  unfold State.spread State.syncLadder
  dsimp only
  split
  · exact Ladder.set_keepsOutputs _ _
  · split
    · exact Ladder.set_keepsOutputs _ _
    · exact ((Ladder.set_keepsOutputs _ _).trans (Ladder.set_keepsOutputs _ _)).trans (State.nextStep_keepsOutputs _)

theorem State.blockShed_keepsOutputs (s : State) (n : TripNotice) : s.KeepsOutputs (s.blockShed n) := by
  have sheds (u : State) (es : List LadderEntry) : u.KeepsOutputs (u.commandSheds es) :=
    .foldl (fun v (e : LadderEntry) => v.commandShed_keepsOutputs e.index) es u
  rw [State.blockShed_eq]
  split
  · exact .refl s
  · split
    · exact (s.raise_keepsOutputs _).trans (sheds _ _)
    · exact sheds s _

/-- A change of the duty logic's fields, the evaluation timer apart. -/
theorem Duty.set_keepsOutputs (s : State) (d : Duty) (evaluation : d.evaluation = s.duty.evaluation) :
    s.KeepsOutputs { s with duty := d } :=
  .of_stands rfl rfl rfl rfl le_rfl id rfl id fun _ off => evaluation.trans off

theorem State.takeTripNotice_keepsOutputs (s : State) (n : TripNotice) : s.KeepsOutputs (s.takeTripNotice n) := by
  have aborts (u : State) (c : Prop) [Decidable c] : u.KeepsOutputs (if c then u else u.abortUnload) := by
    split
    · exact .refl u
    · exact u.abortUnload_keepsOutputs
  unfold State.takeTripNotice
  dsimp only
  split
  · split
    · have sheds : s.KeepsOutputs (s.blockShed n).startTripRecent :=
        (s.blockShed_keepsOutputs n).trans (Duty.set_keepsOutputs _ _ rfl)
      exact sheds.trans (aborts (s.blockShed n).startTripRecent _)
    · exact aborts s _
  · exact .refl s

/-! ### The claims (R153, R158) -/

/-- An operation on the claims that leaves the set and the groups. -/
theorem State.KeepsOutputs.of_claims {s t : State} (frame : s.keepsBut t [.admission])
    (grants : s.GrantsSafe → t.GrantsSafe) (marks : s.MarksSafe → t.MarksSafe) : s.KeepsOutputs t := by
  have behind : State.KeepsOutputs s { t with admission := s.admission } := by
    refine State.keepsBut.keepsOutputs (bs := []) fun b _ => ?_
    have same := frame b
    cases b <;> first | rfl | exact same (by decide)
  exact ⟨behind.biases, behind.engine, behind.pulses, grants, marks⟩

/-- A claim replaced by one whose GRANT and whose out-of-time mark go with its state. -/
theorem State.setClaim_keepsOutputs (s : State) (n : Fin 2) (c : Claim)
    (grant : s.GrantsSafe → (c.grant = true ↔ c.state = .granted ∨ c.state = .consuming))
    (mark : s.MarksSafe → c.outOfTime = true → c.state = .claiming) : s.KeepsOutputs (s.setClaim n c) := by
  refine .of_claims (s.setClaim_frame n c) (fun h m => ?_) fun h m => ?_
  · by_cases same : n = m
    · subst same
      rw [State.claim_setClaim]
      exact grant h
    · rw [State.claim_setClaim_ne s c same]
      exact h m
  · by_cases same : n = m
    · subst same
      rw [State.claim_setClaim]
      exact mark h
    · rw [State.claim_setClaim_ne s c same]
      exact h m

theorem State.setClaimState_keepsOutputs (s : State) (n : Fin 2) (c : Claim)
    (grant : s.GrantsSafe → (c.grant = true ↔ c.state = .granted ∨ c.state = .consuming))
    (mark : s.MarksSafe → c.outOfTime = true → c.state = .claiming) : s.KeepsOutputs (s.setClaimState n c) :=
  .ite (s.setClaim_keepsOutputs n c grant mark) fun _ => (State.request_frame _ _).keepsOutputs

/-- GRANT is open before a claim has been granted. -/
theorem State.GrantsSafe.released {s : State} (h : s.GrantsSafe) {n : Fin 2} (granted : (s.claim n).state ≠ .granted)
    (consuming : (s.claim n).state ≠ .consuming) : (s.claim n).grant = false := by
  simpa [granted, consuming] using h n

/-- Outside its window a claim has no out-of-time mark. -/
theorem State.MarksSafe.clear {s : State} (h : s.MarksSafe) {n : Fin 2} (other : (s.claim n).state ≠ .claiming) :
    (s.claim n).outOfTime = false := by
  simpa [other] using h n

theorem State.toClaiming_keepsOutputs (s : State) (n : Fin 2)
    (before : (s.claim n).state = .idle ∨ (s.claim n).state = .waiting) : s.KeepsOutputs (s.toClaiming n) := by
  refine s.setClaimState_keepsOutputs n _ (fun h => ?_) fun _ _ => rfl
  have released := h.released (n := n) (by rcases before with e | e <;> simp [e]) (by rcases before with e | e <;> simp [e])
  simp [released]

theorem State.toWaiting_keepsOutputs (s : State) (n : Fin 2)
    (before : (s.claim n).state = .idle ∨ (s.claim n).state = .claiming) (inTime : (s.claim n).outOfTime = false) :
    s.KeepsOutputs (s.toWaiting n) := by
  refine s.setClaimState_keepsOutputs n _ (fun h => ?_) fun _ late => ?_
  · have released := h.released (n := n) (by rcases before with e | e <;> simp [e]) (by rcases before with e | e <;> simp [e])
    simp [released]
  · simp [inTime] at late

theorem State.toRefused_keepsOutputs (s : State) (n : Fin 2)
    (before : (s.claim n).state = .claiming ∨ (s.claim n).state = .waiting) : s.KeepsOutputs (s.toRefused n) := by
  refine .trans (s.setClaimState_keepsOutputs n _ (fun h => ?_) (by simp)) (State.raise_keepsOutputs _ _)
  have released := h.released (n := n) (by rcases before with e | e <;> simp [e]) (by rcases before with e | e <;> simp [e])
  simp [released]

theorem State.toGranted_keepsOutputs (s : State) (n : Fin 2) : s.KeepsOutputs (s.toGranted n) :=
  s.setClaimState_keepsOutputs n _ (by simp) (by simp)

theorem State.noteFit_keepsOutputs (s : State) (c : IslandClaim) : s.KeepsOutputs (s.noteFit c) :=
  .of_stands rfl rfl rfl rfl le_rfl id rfl id fun _ => id

/-- An IDLE claim starts its age, its out-of-time mark clear, before it opens (R152). -/
def State.startClaim (s : State) (n : Fin 2) (c : IslandClaim) : State :=
  (s.noteFit c).setClaim n { s.claim n with age := 0, ageTimer := s.after agePeriod, outOfTime := false }

theorem State.startClaim_keepsOutputs (s : State) (n : Fin 2) (c : IslandClaim) : s.KeepsOutputs (s.startClaim n c) :=
  (s.noteFit_keepsOutputs c).trans (State.setClaim_keepsOutputs _ n _ (fun h => h n) (by simp))

theorem State.takeRequest_keepsOutputs (s : State) (n : Fin 2) : s.KeepsOutputs (s.takeRequest n) := by
  unfold State.takeRequest
  split
  · next d _ idle =>
    dsimp only
    generalize ({ station := s.own, index := n, state := .claiming, demand := d, age := 0 } : IslandClaim) = c
    have claim : (s.startClaim n c).claim n
        = { s.claim n with age := 0, ageTimer := s.after agePeriod, outOfTime := false } := State.claim_setClaim _ n _
    have still : ((s.startClaim n c).claim n).state = .idle := by rw [claim, idle]
    refine (s.startClaim_keepsOutputs n c).trans ?_
    split
    · exact State.toClaiming_keepsOutputs _ n (.inl still)
    · exact State.toWaiting_keepsOutputs _ n (.inl still) (by rw [claim])
  · exact .refl s

/-- An own claim that is listed as WAITING is in WAITING. -/
theorem State.ownIslandClaim_waiting {s : State} {n : Fin 2} {c : IslandClaim} (listed : s.ownIslandClaim n = some c)
    (waiting : c.state = .waiting) : (s.claim n).state = .waiting := by
  obtain ⟨-, -, -, -, state⟩ := (s.ownIslandClaim_iff n c).1 listed
  rw [waiting] at state
  simpa [ClaimState.listed_iff] using state

theorem State.retestClaim_keepsOutputs (s : State) (n : Fin 2) : s.KeepsOutputs (s.retestClaim n) := by
  unfold State.retestClaim
  split
  · next c listed =>
    split
    · next waiting =>
      exact .ite (s.noteFit_keepsOutputs c) fun _ =>
        State.toClaiming_keepsOutputs _ n (.inr (State.ownIslandClaim_waiting listed waiting))
    · exact .refl s
  · exact .refl s

theorem State.judgeWindow_keepsOutputs (s : State) (n : Fin 2) (claiming : (s.claim n).state = .claiming) :
    s.KeepsOutputs (s.judgeWindow n) := by
  unfold State.judgeWindow
  split
  · exact .refl s
  · next c _ =>
    have claiming' : ((s.noteFit c).claim n).state = .claiming := claiming
    refine (s.noteFit_keepsOutputs c).trans ?_
    dsimp only
    split
    · exact State.toGranted_keepsOutputs _ n
    · split
      · exact State.toRefused_keepsOutputs _ n (.inl claiming')
      · next inTime => exact State.toWaiting_keepsOutputs _ n (.inr claiming') (by simpa using inTime)

theorem State.waitedOut_keepsOutputs (s : State) (n : Fin 2) : s.KeepsOutputs (s.waitedOut n) := by
  have stops : s.KeepsOutputs (s.setClaim n { s.claim n with waiting := none }) :=
    s.setClaim_keepsOutputs n _ (fun h => h n) (fun h => h n)
  refine stops.trans ?_
  unfold State.waitedOut
  dsimp only
  split
  · next waiting => exact State.toRefused_keepsOutputs _ n (.inr waiting)
  · next claiming =>
    refine State.setClaim_keepsOutputs _ n _ (fun h => h n) fun _ _ => claiming
  all_goals exact .refl _

end Sys2Proof.Machine
end

section
/-! The card's outputs through every command, and so through every step. -/

namespace Sys2Proof.Machine

/-! ### Taking a command -/

/-- Whatever state a command leaves, it keeps the outputs of `s` safe. -/
def State.KeepsOutputsIn (s : State) (r : Result) : Prop := ∀ t, r = .next t → s.KeepsOutputs t

theorem State.KeepsOutputs.next {s t : State} (h : s.KeepsOutputs t) : s.KeepsOutputsIn (.next t) := by
  rintro _ ⟨⟩
  exact h

theorem whileAwake_keepsOutputs {s : State} {f : State → State} (h : s.KeepsOutputs (f s)) :
    s.KeepsOutputsIn (whileAwake s f) := by
  refine State.KeepsOutputs.next ?_
  split
  · exact h
  · exact .refl s

/-- A timer's expiry falls at the timer's own instant at the earliest. -/
theorem onExpiry_keepsOutputs {s : State} {t : Timer} {f : State → State}
    (h : ∀ d, t = some d → (s.advanceTo d).KeepsOutputs (f (s.advanceTo d))) : s.KeepsOutputsIn (onExpiry s t f) := by
  unfold onExpiry
  split
  · exact (State.KeepsOutputs.refl s).next
  · next d =>
    refine State.KeepsOutputs.next ?_
    split
    · exact (s.advanceTo_keepsOutputs d).trans (h d rfl)
    · exact .refl s

/-- An expiry that is taken in one set state alone, or in one state of a claim. -/
theorem onExpiryWhen_keepsOutputs {s : State} {c : Prop} [Decidable c] {t : Timer} {f : State → State}
    (h : c → ∀ d, (s.advanceTo d).KeepsOutputs (f (s.advanceTo d))) :
    s.KeepsOutputsIn (onExpiry s (if c then t else none) f) :=
  onExpiry_keepsOutputs fun d running => by
    split at running
    · next holds => exact h holds d
    · contradiction

/-- An edge of an input other than RUNNING, taken past LOAD (R75). -/
theorem State.edge_keepsOutputs {s : State} {p : Pins} {c : Prop} [Decidable c] {f : State → State}
    (keeps : ∀ u : State, u.KeepsOutputs (f u)) (running : p.running = s.pins.running := by rfl) :
    s.KeepsOutputs (if c then (f { s with pins := p }).finish else { s with pins := p }) :=
  .ite (t := { s with pins := p }) (.of_stands rfl rfl rfl rfl le_rfl id running id fun _ => id) fun _ =>
    (keeps _).trans (State.finish_keepsOutputs _)

/-! ### The card modes (Section 10) -/

/-- Entering LOAD releases every output (R165). -/
theorem State.enterLoad_keepsOutputs (s : State) : s.KeepsOutputs s.enterLoad where
  biases _ := (State.biasesSafe_iff _).2 (by simp [State.enterLoad, State.reset])
  engine _ := by simp [State.EngineSafe, State.enterLoad, State.reset]
  pulses _ := fun i a trip => by simp [State.enterLoad, State.reset, State.channel, Channel.reset] at trip
  grants _ := fun n => by simp [State.enterLoad, State.reset, State.claim, Claim.reset]
  marks _ := fun n mark => by simp [State.enterLoad, State.reset, State.claim, Claim.reset] at mark

/-- The close spacing timer starts afresh, 10,000 ms from now (R114). -/
theorem State.startSpacing_keepsOutputs (s : State) :
    s.KeepsOutputs { s with groups := { s.groups with closeSpacing := s.after closeSpacingTime } } := by
  refine .of_groups (Groups.set_frame s _) fun h i a trip => ?_
  obtain ⟨near, -, closed⟩ := h i a trip
  refine ⟨near, .inr ⟨s.now + 10000000, rfl, ?_⟩, closed⟩
  show a + 9800000 ≤ s.now + 10000000
  omega

theorem State.startChannel_keepsOutputs (s : State) (i : Fin 6) : s.KeepsOutputs (s.startChannel i) := by
  unfold State.startChannel
  split
  · exact .refl s
  · exact s.setChannel_keepsOutputs i _ (.inl rfl) (.inl rfl)

/-- The set state taken from the levels is none that only RUN reaches (R79). -/
theorem Pins.startSetState_cases (p : Pins) :
    p.startSetState = .loading ∨ p.startSetState = .standby ∨ p.startSetState = .off := by
  unfold Pins.startSetState
  split
  · exact .inl rfl
  · split
    · exact .inr (.inl rfl)
    · exact .inr (.inr rfl)

/-- The set state that the card starts in, with the outputs as LOAD left them (R79). -/
theorem State.startSet_keepsOutputs (s : State) (quiet : s.loader.mode ≠ .run) :
    s.KeepsOutputs (s.setSetState s.pins.startSetState) := by
  have cases := s.pins.startSetState_cases
  refine s.setSetState_keepsOutputs s.seq ?_ rfl rfl (fun h => h.permit_released fun starting => ?_) fun _ _ => ?_
  · rcases cases with e | e | e <;> simp [e]
  · exact absurd (h.run_of_state (by rw [starting]; decide)) quiet
  · rcases cases with e | e | e <;> simp [e]

theorem State.enterListen_keepsOutputs {s : State} (load : s.loader.mode = .load) (straps : StrapPins)
    (image : List Word) : s.KeepsOutputs (s.enterListen straps image) := by
  let u : State := { s with
    loader := { s.loader with straps, image, firstFault := firstFaultOf image
                              config := some (formConfiguration straps image), mode := .listen, loadTimer := none
                              listenTimer := s.after listenTime }
    laneA := s.laneA.enterListen s.now
    laneB := s.laneB.enterListen s.now
    island := { s.island with tieView := s.pins.tieView }
    metering := { s.metering with interval := s.after meteringInterval }
    service := { s.service with gap := s.after gapTime }
    ladder := { s.ladder with actionAge := 0, ageTimer := s.after agePeriod } }
  let v : State := { u with groups := { u.groups with closeSpacing := u.after closeSpacingTime } }
  let w : State := (List.finRange 6).foldl State.startChannel v
  have listens : s.KeepsOutputs u := .of_stands rfl rfl rfl rfl le_rfl id rfl (fun _ => by simp [load]) fun _ => id
  have spaced : u.KeepsOutputs v := u.startSpacing_keepsOutputs
  have channels : v.KeepsOutputs w := .foldl State.startChannel_keepsOutputs _ v
  have mode : w.loader = u.loader := State.startChannels_frame v .loader (by decide)
  have set : w.KeepsOutputs (w.setSetState w.pins.startSetState) := w.startSet_keepsOutputs (by rw [mode]; simp [u])
  exact (((listens.trans spaced).trans channels).trans set).trans (State.finish_keepsOutputs _)

/-- Entering RUN, where the biases may move and evaluations begin (R168). -/
theorem State.enterRun_keepsOutputs (s : State) : s.KeepsOutputs s.enterRun := by
  have run : s.startRun.loader.mode = .run := rfl
  have starts : s.KeepsOutputs s.startRun :=
    .of_stands rfl rfl rfl rfl le_rfl id rfl (absurd run) (absurd run)
  have composes : s.startRun.KeepsOutputs (s.startRun.request .periodic).resolve.flush.resolve :=
    (((State.request_frame _ _).keepsOutputs.trans (State.resolve_frame _).keepsOutputs).trans
      (State.flush_frame _).keepsOutputs).trans (State.resolve_frame _).keepsOutputs
  have takes (u : State) (n : Fin 2) (c : Prop) [Decidable c] : u.KeepsOutputs (if c then u.takeRequest n else u) :=
    .ite (.refl u) fun _ => u.takeRequest_keepsOutputs n
  exact (((starts.trans composes).trans (takes _ 0 _)).trans (takes _ 1 _)).trans (State.finish_keepsOutputs _)

theorem execListenTimerExpiry_keepsOutputs (s : State) : s.KeepsOutputsIn (execListenTimerExpiry s) :=
  onExpiry_keepsOutputs fun _ _ => (State.seeLanes_frame _).keepsOutputs.trans (State.enterRun_keepsOutputs _)

theorem execLoadReadDone_keepsOutputs (straps : StrapPins) (image : List Word) (s : State) :
    s.KeepsOutputsIn (execLoadReadDone straps image s) :=
  (State.KeepsOutputs.ite (.refl s) fun loading => State.enterListen_keepsOutputs loading.2 straps image).next

theorem execLoadTimeout_keepsOutputs (straps : StrapPins) (image : List Word) (s : State) :
    s.KeepsOutputsIn (execLoadTimeout straps image s) := by
  unfold execLoadTimeout
  split
  · exact (State.KeepsOutputs.refl s).next
  · next d _ =>
    refine (State.KeepsOutputs.ite (.refl s) fun loading => (s.advanceTo_keepsOutputs d).trans ?_).next
    exact State.enterListen_keepsOutputs (s := s.advanceTo d) loading.2 straps _

theorem execLossOfPower_keepsOutputs (s : State) : s.KeepsOutputsIn (execLossOfPower s) :=
  State.KeepsOutputs.next (.of_stands rfl rfl rfl rfl le_rfl (fun supplied => absurd supplied (by simp)) rfl id
    fun _ => id)

/-! ### The share link (Section 1) -/

theorem State.setLane_syncAlarms_keepsOutputs (s : State) (l : LaneId) (x : LaneIf) :
    s.KeepsOutputs (s.setLane l x).syncAlarms :=
  (s.setLane_keepsOutputs l x).trans (State.syncAlarms_frame _).keepsOutputs

theorem State.advanceTo_setLane_keepsOutputs (s : State) (d : Nat) (l : LaneId) (x : LaneIf) :
    s.KeepsOutputs ((s.advanceTo d).setLane l x) :=
  (s.advanceTo_keepsOutputs d).trans (State.setLane_keepsOutputs _ l x)

/-- A duplicate of the own identity takes the card from LISTEN to MUTE, where the biases are 0 as before (R167). -/
theorem State.takeDuplicate_keepsOutputs (s : State) : s.KeepsOutputs s.takeDuplicate := by
  unfold State.takeDuplicate
  split
  · next listen =>
    have quiet : s.loader.mode ≠ .run := by rw [show s.loader.mode = .listen from listen]; simp
    exact .trans (t := { s with loader := { s.loader with mode := .mute, listenTimer := none } })
      (.of_stands rfl rfl rfl rfl le_rfl id rfl (fun _ => quiet) fun _ => id) (State.finish_keepsOutputs _)
  · exact s.raise_keepsOutputs _
  · exact .refl s
  · exact .refl s

theorem State.queueFrame_keepsOutputs (s : State) (l : LaneId) (f : Frame) : s.KeepsOutputs (s.queueFrame l f) :=
  (s.queueFrame_frame l f).keepsOutputs

theorem State.takeGoodFrame_keepsOutputs (s : State) (l : LaneId) (f : Frame) (inSend : Bool) :
    s.KeepsOutputs (s.takeGoodFrame l f inSend) := by
  unfold State.takeGoodFrame
  dsimp only
  refine (s.setLane_keepsOutputs l { s.lane l with goodFrames := bump (s.lane l).goodFrames }).trans ?_
  split
  · split
    · exact .refl _
    · exact State.takeDuplicate_keepsOutputs _
  · exact (State.hearPeer_frame _ l).keepsOutputs.trans (State.queueFrame_keepsOutputs _ l f)

theorem execReceptionEnd_keepsOutputs (l : LaneId) (rx : Reception) (s : State) :
    s.KeepsOutputsIn (execReceptionEnd l rx s) := by
  refine whileAwake_keepsOutputs ?_
  dsimp only
  split
  · exact .refl s
  · refine (s.setLane_keepsOutputs l ((s.lane l).endReception s.now)).trans ?_
    split
    · exact .refl _
    · split
      · exact State.setLane_keepsOutputs _ l _
      · exact (State.takeGoodFrame_keepsOutputs _ l _ _).trans (State.syncAlarms_frame _).keepsOutputs

theorem execReceptionBegins_keepsOutputs (l : LaneId) (s : State) : s.KeepsOutputsIn (execReceptionBegins l s) := by
  refine whileAwake_keepsOutputs ?_
  split
  · exact .refl s
  · split
    · exact .refl s
    · exact s.advanceTo_setLane_keepsOutputs _ l _

theorem execSendStart_keepsOutputs (l : LaneId) (s : State) : s.KeepsOutputsIn (execSendStart l s) := by
  refine whileAwake_keepsOutputs ?_
  split
  · split
    · exact .refl s
    · exact s.advanceTo_setLane_keepsOutputs _ l _
  · exact .refl s

theorem execFrameComplete_keepsOutputs (l : LaneId) (s : State) : s.KeepsOutputsIn (execFrameComplete l s) := by
  refine whileAwake_keepsOutputs ?_
  split
  · exact .refl s
  · exact s.advanceTo_setLane_keepsOutputs _ l _

theorem execCollision_keepsOutputs (l : LaneId) (s : State) : s.KeepsOutputsIn (execCollision l s) :=
  whileAwake_keepsOutputs (.ite (.refl s) fun _ => s.setLane_keepsOutputs l _)

theorem execStuckEntry_keepsOutputs (l : LaneId) (began : Bool) (s : State) :
    s.KeepsOutputsIn (execStuckEntry l began s) := by
  refine whileAwake_keepsOutputs ?_
  dsimp only
  split
  · exact .refl s
  · exact s.setLane_syncAlarms_keepsOutputs l _

theorem execDriverTestLaneIdle_keepsOutputs (l : LaneId) (s : State) : s.KeepsOutputsIn (execDriverTestLaneIdle l s) :=
  whileAwake_keepsOutputs (.ite (.refl s) fun _ => s.setLane_syncAlarms_keepsOutputs l _)

theorem execIsolatedLaneIdle_keepsOutputs (l : LaneId) (s : State) : s.KeepsOutputsIn (execIsolatedLaneIdle l s) :=
  whileAwake_keepsOutputs (.ite (.refl s) fun _ => s.setLane_keepsOutputs l _)

theorem execStuckEnd_keepsOutputs (l : LaneId) (s : State) : s.KeepsOutputsIn (execStuckEnd l s) :=
  whileAwake_keepsOutputs (.ite (.refl s) fun _ => s.setLane_syncAlarms_keepsOutputs l _)

theorem execJamEnd_keepsOutputs (l : LaneId) (s : State) : s.KeepsOutputsIn (execJamEnd l s) :=
  onExpiry_keepsOutputs fun _ _ => State.setLane_keepsOutputs _ l _

theorem execBackoffExpiry_keepsOutputs (l : LaneId) (s : State) : s.KeepsOutputsIn (execBackoffExpiry l s) :=
  onExpiry_keepsOutputs fun _ _ => State.setLane_keepsOutputs _ l _

theorem execDriverTestExpiry_keepsOutputs (l : LaneId) (s : State) : s.KeepsOutputsIn (execDriverTestExpiry l s) :=
  onExpiry_keepsOutputs fun _ _ => State.setLane_keepsOutputs _ l _

theorem execErrorWindowExpiry_keepsOutputs (l : LaneId) (s : State) : s.KeepsOutputsIn (execErrorWindowExpiry l s) :=
  onExpiry_keepsOutputs fun _ _ => State.setLane_syncAlarms_keepsOutputs _ l _

theorem execSilenceTimerExpiry_keepsOutputs (l : LaneId) (s : State) : s.KeepsOutputsIn (execSilenceTimerExpiry l s) :=
  onExpiry_keepsOutputs fun _ _ => State.setLane_syncAlarms_keepsOutputs _ l _

theorem Composer.set_keepsOutputs (s : State) (c : Composer) : s.KeepsOutputs { s with composer := c } :=
  .of_stands rfl rfl rfl rfl le_rfl id rfl id fun _ => id

theorem execFrameTimerExpiry_keepsOutputs (s : State) : s.KeepsOutputsIn (execFrameTimerExpiry s) :=
  onExpiry_keepsOutputs fun _ _ => ((Composer.set_keepsOutputs _ _).trans (State.request_frame _ _).keepsOutputs).trans
    (State.finish_keepsOutputs _)

theorem execSpacingTimerExpiry_keepsOutputs (s : State) : s.KeepsOutputsIn (execSpacingTimerExpiry s) :=
  onExpiry_keepsOutputs fun _ _ => (Composer.set_keepsOutputs _ _).trans (State.finish_keepsOutputs _)

/-! ### The peers and the ties (Sections 2 and 3) -/

theorem State.counted_keepsOutputs (s : State) (i : Station) (x : PeerEntry) (late dual : Nat) :
    s.KeepsOutputs (s.counted i x late dual) :=
  (s.counted_frame i x late dual).keepsOutputs

theorem State.takeUp_keepsOutputs (s : State) (n : Option TripNotice) : s.KeepsOutputs (s.takeUp n) := by
  cases n with
  | none => exact s.spread_keepsOutputs
  | some n => exact s.spread_keepsOutputs.trans (State.takeTripNotice_keepsOutputs _ n)

theorem State.takeIn_keepsOutputs (s : State) (l : LaneId) (f : Frame) : s.KeepsOutputs (s.takeIn l f) := by
  cases decided : verdict (s.entry f.station) f.number with
  | accepted =>
    rw [State.takeIn_accepted decided]
    exact ((s.setEntry_keepsOutputs _ _).trans (State.takeUp_keepsOutputs _ _)).trans (State.finish_keepsOutputs _)
  | dualCopy =>
    rw [State.takeIn_dualCopy decided]
    exact s.counted_keepsOutputs _ _ _ _
  | lateFrame =>
    rw [State.takeIn_lateFrame decided]
    exact s.counted_keepsOutputs _ _ _ _

theorem State.dequeued_keepsOutputs (s : State) (rest : List (LaneId × Frame)) : s.KeepsOutputs (s.dequeued rest) :=
  .of_stands rfl rfl rfl rfl (s.now_le_dequeued rest) id rfl id fun _ => id

theorem execIntake_keepsOutputs (s : State) : s.KeepsOutputsIn (execIntake s) := by
  refine whileAwake_keepsOutputs ?_
  split
  · exact .refl s
  · next l f rest _ => exact (s.dequeued_keepsOutputs rest).trans (State.takeIn_keepsOutputs _ l f)

/-- An entry replaced and the change taken up (R25). -/
theorem State.setEntry_spread_keepsOutputs (s : State) (i : Station) (e : PeerEntry) :
    s.KeepsOutputs (s.setEntry i e).spread.finish :=
  ((s.setEntry_keepsOutputs i e).trans (State.spread_keepsOutputs _)).trans (State.finish_keepsOutputs _)

theorem execEntryTimer350_keepsOutputs (i : Station) (s : State) : s.KeepsOutputsIn (execEntryTimer350 i s) :=
  onExpiry_keepsOutputs fun _ _ => State.setEntry_spread_keepsOutputs _ i _

theorem execEntryTimer1000_keepsOutputs (i : Station) (s : State) : s.KeepsOutputsIn (execEntryTimer1000 i s) :=
  onExpiry_keepsOutputs fun _ _ => State.setEntry_spread_keepsOutputs _ i _

theorem execLanesHeardExpiry_keepsOutputs (i : Station) (l : LaneId) (s : State) :
    s.KeepsOutputsIn (execLanesHeardExpiry i l s) :=
  onExpiry_keepsOutputs fun _ _ => State.setEntry_keepsOutputs _ i _

theorem execTieInputChange_keepsOutputs (tie : Fin 3) (closed : Bool) (s : State) :
    s.KeepsOutputsIn (execTieInputChange tie closed s) := by
  unfold execTieInputChange
  split
  · exact (State.KeepsOutputs.refl s).next
  · refine State.KeepsOutputs.next ?_
    dsimp only
    split
    · split <;> exact .of_stands rfl rfl rfl rfl le_rfl id rfl id fun _ => id
    · exact .of_stands rfl rfl rfl rfl le_rfl id rfl id fun _ => id

theorem Island.set_keepsOutputs (s : State) (isl : Island) : s.KeepsOutputs { s with island := isl } :=
  .of_stands rfl rfl rfl rfl le_rfl id rfl id fun _ => id

theorem execTieFilterExpiry_keepsOutputs (tie : Fin 3) (s : State) : s.KeepsOutputsIn (execTieFilterExpiry tie s) :=
  onExpiry_keepsOutputs fun _ _ => (((Island.set_keepsOutputs _ _).trans (Island.set_keepsOutputs _ _)).trans
    (State.spread_keepsOutputs _)).trans (State.finish_keepsOutputs _)

theorem execReturnTimerExpiry_keepsOutputs (s : State) : s.KeepsOutputsIn (execReturnTimerExpiry s) :=
  onExpiry_keepsOutputs fun _ _ => (Island.set_keepsOutputs _ _).trans (State.settle_frame _).keepsOutputs

/-! ### The regulator (Section 4) -/

theorem clampInt_range {lo hi : Int} (ordered : lo ≤ hi) (x : Int) : lo ≤ clampInt lo hi x ∧ clampInt lo hi x ≤ hi := by
  unfold clampInt
  omega

/-- A record is worked in RUN with the set online, and moves no bias anywhere else (R59). -/
theorem recordCase_worked {run : Bool} {st : SetState} {mode : SharingMode} {valid : Bool}
    (worked : recordCase run st mode valid = .worked) : run = true ∧ st.online = true := by
  unfold recordCase at worked
  split at worked
  · contradiction
  · next h => simpa using h

/-- What the regulator makes of a record: without a worked one the biases stand and no notice is given (R59, R60); a
worked one saturates both (R72). -/
theorem regulate_cases (c : Configuration) (run : Bool) (isl : Island) (st : SetState) (reg : Regulator) (r : MeterRecord) :
    let out := regulate c run isl st reg r
    (out.2 = none ∧ out.1.speedBias = reg.speedBias ∧ out.1.voltBias = reg.voltBias)
      ∨ (run = true ∧ st.online = true ∧ (-10000 ≤ out.1.speedBias ∧ out.1.speedBias ≤ 10000)
        ∧ (-10000 ≤ out.1.voltBias ∧ out.1.voltBias ≤ 10000)) := by
  unfold regulate
  split
  · exact .inl ⟨rfl, rfl, rfl⟩
  · refine .inl ⟨rfl, ?_⟩
    unfold holdRecord
    split <;> exact ⟨rfl, rfl⟩
  · next worked =>
    obtain ⟨running, online⟩ := recordCase_worked worked
    exact .inr ⟨running, online, clampInt_range (by decide) _, clampInt_range (by decide) _⟩

/-- The regulator's step at a record, with the notice it gives (R59, R72, R86, R93). -/
theorem State.regulate_keepsOutputs (s : State) (isl : Island) (r : MeterRecord) :
    let out := regulate s.conf s.inRun isl s.seq.state s.regulator r
    s.KeepsOutputs (State.takeNotice { s with regulator := out.1 } out.2) := by
  intro out
  have frame : s.keepsBut { s with regulator := out.1 } [.seq, .regulator, .composer, .island] :=
    (Regulator.set_frame s out.1).mono (by decide)
  have engine (h : s.EngineSafe) : State.EngineSafe { s with regulator := out.1 } :=
    h.of_seq frame h.1 (fun quiet => (h.2.1 quiet).1) h.2.2
  rcases regulate_cases s.conf s.inRun isl s.seq.state s.regulator r with
    ⟨silent, speed, volt⟩ | ⟨running, online, speed, volt⟩
  · rw [show out.2 = none from silent]
    exact .of_set frame (fun h => h.congr speed volt id) engine
  · have run : s.loader.mode = .run := of_decide_eq_true running
    have moved : s.KeepsOutputs { s with regulator := out.1 } := by
      refine .of_set frame (fun _ => (State.biasesSafe_iff _).2 ⟨speed, volt, ?_⟩) engine
      rintro (quiet | offline)
      · exact absurd run quiet
      · exact absurd (offline.symm.trans online) (by simp)
    refine moved.trans ?_
    match out.2 with
    | none => exact .refl _
    | some .loadingComplete => exact State.takeLoadingComplete_keepsOutputs _ run
    | some .unloaded => exact State.takeUnloaded_keepsOutputs _

theorem State.stepStages_keepsOutputs (s : State) (isl : Island) (r : MeterRecord) : s.KeepsOutputs (s.stepStages isl r) := by
  unfold State.stepStages
  dsimp only
  split
  · split
    · exact (Ladder.set_keepsOutputs s _).trans (State.requestStep_keepsOutputs _)
    · exact Ladder.set_keepsOutputs s _
  · exact Ladder.set_keepsOutputs s _

theorem State.deliver_keepsOutputs (s : State) (r : MeterRecord) : s.KeepsOutputs (s.deliver r) :=
  (((s.receiveRecord_frame r).keepsOutputs.trans (State.regulate_keepsOutputs _ _ r)).trans
    (State.stepStages_keepsOutputs _ _ r)).trans (State.finish_keepsOutputs _)

theorem Metering.set_keepsOutputs (s : State) (m : Metering) : s.KeepsOutputs { s with metering := m } :=
  .of_stands rfl rfl rfl rfl le_rfl id rfl id fun _ => id

theorem execMeteringIntervalExpiry_keepsOutputs (m : Measurement) (s : State) :
    s.KeepsOutputsIn (execMeteringIntervalExpiry m s) := by
  refine onExpiry_keepsOutputs fun d _ => ?_
  refine (Metering.set_keepsOutputs (s.advanceTo d)
    { s.metering with interval := (s.advanceTo d).after meteringInterval }).trans ?_
  dsimp only
  split
  · split
    · exact Metering.set_keepsOutputs _ _
    · exact State.deliver_keepsOutputs _ _
  · exact .refl _

/-! ### The own set (Section 5) -/

/-- An online set has left STARTING, and trips into a state that every mode knows (R79, R87). -/
theorem State.trip_keepsOutputs (s : State) (online : s.seq.state ≠ .starting) : s.KeepsOutputs s.trip := by
  have trips (q : Sequencer) (start : q.startPulse = s.seq.startPulse) (stop : q.stopPulse = s.seq.stopPulse)
      (permit : q.closePermit = s.seq.closePermit) : s.KeepsOutputs (State.setSetState { s with seq := q } .tripped) :=
    s.changeState_keepsOutputs q online (by simp) start stop permit fun _ _ => by simp
  have composes (u : State) : u.KeepsOutputs u.flush.resolve :=
    u.flush_frame.keepsOutputs.trans (State.resolve_frame _).keepsOutputs
  exact ((trips { s.seq with unloadTimer := none, pendingUnload := false, unloadKind := .none } rfl rfl rfl).trans
    (composes _)).trans (State.takeTripNotice_keepsOutputs _ _)

theorem State.completeOpening_keepsOutputs (s : State) (opening : s.seq.state = .opening) :
    s.KeepsOutputs s.completeOpening := by
  have issued : s.issueStop.seq.state = .opening := by
    unfold State.issueStop
    split <;> exact opening
  refine s.issueStop_keepsOutputs.trans (State.changeState_keepsOutputs _ _ (by simp [issued]) ?_ rfl rfl rfl fun _ _ => ?_)
  · split <;> simp
  · split <;> simp

theorem State.breakerCloses_keepsOutputs (s : State) : s.KeepsOutputs s.breakerCloses := by
  rcases s.breakerCloses_cases with e | e <;> rw [e]
  · exact s.closeOnBus_keepsOutputs
  · exact .refl s

theorem State.breakerOpens_keepsOutputs (s : State) : s.KeepsOutputs s.breakerOpens := by
  unfold State.breakerOpens
  split
  case h_1 state => exact s.trip_keepsOutputs (by simp [state])
  case h_2 state => exact s.trip_keepsOutputs (by simp [state])
  case h_3 state => exact s.trip_keepsOutputs (by simp [state])
  case h_4 state => exact s.completeOpening_keepsOutputs state
  all_goals exact .refl s

theorem State.availableRises_keepsOutputs (s : State) : s.KeepsOutputs s.availableRises := by
  have stands (before : s.seq.state ≠ .starting) : s.KeepsOutputs (s.setSetState .standby) :=
    s.changeState_keepsOutputs s.seq before (by simp) rfl rfl rfl fun _ _ => by simp
  unfold State.availableRises
  split
  case h_1 state => exact stands (by simp [state])
  case h_2 state => exact stands (by simp [state])
  all_goals exact .refl s

theorem State.availableFalls_keepsOutputs (s : State) : s.KeepsOutputs s.availableFalls := by
  have stops (before : s.seq.state ≠ .starting) : s.KeepsOutputs (s.setSetState .off) :=
    s.changeState_keepsOutputs s.seq before (by simp) rfl rfl rfl fun _ _ => by simp
  unfold State.availableFalls
  split
  case h_1 state => exact stops (by simp [state])
  case h_2 state => exact stops (by simp [state])
  case h_3 state => exact stops (by simp [state])
  case h_4 state => exact s.leaveStarting_keepsOutputs state (by simp)
  all_goals exact .refl s

theorem State.unloadRises_keepsOutputs (s : State) : s.KeepsOutputs s.unloadRises := by
  unfold State.unloadRises
  split
  case h_1 state => exact s.judgeUnload_keepsOutputs state
  case h_2 => exact Sequencer.set_keepsOutputs s _ rfl rfl id
  case h_3 => exact Sequencer.set_keepsOutputs s _ rfl rfl id
  all_goals exact .refl s

theorem execBreakerCloseEdge_keepsOutputs (s : State) : s.KeepsOutputsIn (execBreakerCloseEdge s) := by
  unfold execBreakerCloseEdge
  split
  · exact (State.KeepsOutputs.refl s).next
  · exact State.KeepsOutputs.next (State.edge_keepsOutputs State.breakerCloses_keepsOutputs)

theorem execBreakerOpenEdge_keepsOutputs (s : State) : s.KeepsOutputsIn (execBreakerOpenEdge s) := by
  unfold execBreakerOpenEdge
  split
  · exact State.KeepsOutputs.next (State.edge_keepsOutputs State.breakerOpens_keepsOutputs)
  · exact (State.KeepsOutputs.refl s).next

theorem execAvailableEdge_keepsOutputs (high : Bool) (s : State) : s.KeepsOutputsIn (execAvailableEdge high s) := by
  have keeps (u : State) : u.KeepsOutputs (if high then u.availableRises else u.availableFalls) := by
    split
    · exact u.availableRises_keepsOutputs
    · exact u.availableFalls_keepsOutputs
  unfold execAvailableEdge
  split
  · exact (State.KeepsOutputs.refl s).next
  · exact State.KeepsOutputs.next (State.edge_keepsOutputs keeps)

theorem execUnloadEdge_keepsOutputs (high : Bool) (s : State) : s.KeepsOutputsIn (execUnloadEdge high s) := by
  unfold execUnloadEdge
  split
  · exact (State.KeepsOutputs.refl s).next
  · exact State.KeepsOutputs.next (State.edge_keepsOutputs State.unloadRises_keepsOutputs)

/-- With supply a set in STARTING stands in RUN, so that the card takes the RUNNING edge and CLOSE PERMIT follows it (R82). -/
theorem execRunningEdge_keepsOutputs (high : Bool) (s : State) : s.KeepsOutputsIn (execRunningEdge high s) := by
  unfold execRunningEdge
  split
  · exact (State.KeepsOutputs.refl s).next
  · refine State.KeepsOutputs.next ?_
    dsimp only
    split
    · next takes =>
      refine ⟨fun h => h.congr rfl rfl id, fun h => ⟨h.1, h.2.1, fun _ => ?_⟩, id, id, id⟩
      simp [show s.seq.state = .starting from takes.2]
    · next ignores =>
      refine ⟨fun h => h.congr rfl rfl id, fun h => ⟨h.1, h.2.1, fun supplied => ?_⟩, id, id, id⟩
      have other : s.seq.state ≠ .starting := fun starting => by
        have run := h.run_of_state (by rw [starting]; decide)
        refine ignores ⟨?_, starting⟩
        have powered : s.powered = true := supplied
        simp [State.awake, State.mode, powered, run]
      simpa [other] using h.permit_released other supplied

theorem execStartTimerExpiry_keepsOutputs (s : State) : s.KeepsOutputsIn (execStartTimerExpiry s) :=
  onExpiryWhen_keepsOutputs fun starting d => ((State.leaveStarting_keepsOutputs (s.advanceTo d) starting (by simp)).trans
    (State.raise_keepsOutputs _ _)).trans (State.finish_keepsOutputs _)

theorem execUnloadTimerExpiry_keepsOutputs (s : State) : s.KeepsOutputsIn (execUnloadTimerExpiry s) :=
  onExpiryWhen_keepsOutputs fun unloading d => ((State.returnToSharing_keepsOutputs (s.advanceTo d) (.inl unloading)).trans
    (State.raise_keepsOutputs _ _)).trans (State.finish_keepsOutputs _)

theorem execOpeningTimerExpiry_keepsOutputs (s : State) : s.KeepsOutputsIn (execOpeningTimerExpiry s) :=
  onExpiryWhen_keepsOutputs fun opening d => ((State.returnToSharing_keepsOutputs (s.advanceTo d) (.inr opening)).trans
    (State.raise_keepsOutputs _ _)).trans (State.finish_keepsOutputs _)

theorem execSetPulseEnd_keepsOutputs (which : SetPulse) (s : State) : s.KeepsOutputsIn (execSetPulseEnd which s) :=
  onExpiry_keepsOutputs fun _ _ => State.endSetPulse_keepsOutputs _ which

/-! ### The duty logic (Section 6) -/

/-- An evaluation, whose timer runs as it is made (R95, R97). -/
theorem State.evaluate_keepsOutputs (s : State) (runs : s.duty.evaluation ≠ none) : s.KeepsOutputs s.evaluate := by
  unfold State.evaluate
  dsimp only
  refine .ite (.ite (.ite (Duty.set_keepsOutputs s _ rfl) fun _ => ?_) fun _ => ?_) fun _ => ?_
  · exact State.abortUnload_keepsOutputs _
  · refine State.takeStart_keepsOutputs _ ?_
    split
    · rw [State.abortUnload_frame _ .duty (by decide)]
      exact runs
    · exact runs
  · exact State.takeStop_keepsOutputs _

theorem execEvaluation_keepsOutputs (s : State) : s.KeepsOutputsIn (execEvaluation s) := by
  refine onExpiry_keepsOutputs fun d running => ?_
  have restarts : (s.advanceTo d).KeepsOutputs { s.advanceTo d with duty :=
      { s.duty with evaluation := (s.advanceTo d).after evaluationPeriod } } :=
    .of_stands rfl rfl rfl rfl le_rfl id rfl id fun _ off => by
      rw [State.advanceTo_duty, running] at off
      contradiction
  exact (restarts.trans (State.evaluate_keepsOutputs _ (by simp [State.after]))).trans (State.finish_keepsOutputs _)

theorem execTripRecentTimerExpiry_keepsOutputs (s : State) : s.KeepsOutputsIn (execTripRecentTimerExpiry s) :=
  onExpiry_keepsOutputs fun _ _ => Duty.set_keepsOutputs _ _ rfl

/-! ### The groups and the ladder (Sections 7 and 8) -/

theorem State.takeEdge_keepsOutputs (i : Fin 6) (closing : Bool) (s : State) : s.KeepsOutputs (s.takeEdge i closing) := by
  have marks (c : Channel) : (c.mark closing).trip = c.trip ∧ (c.mark closing).close = c.close := by
    unfold Channel.mark
    split <;> exact ⟨rfl, rfl⟩
  have clears : s.KeepsOutputs (s.setChannel i { s.channel i with openingSeen := false, closingSeen := false }) :=
    s.setChannel_keepsOutputs i _ (.inl rfl) (.inl rfl)
  have stops (u : State) : u.KeepsOutputs (u.setChannel i { u.channel i with window := none }) :=
    u.setChannel_keepsOutputs i _ (.inl rfl) (.inl rfl)
  unfold State.takeEdge
  split
  · exact .refl s
  · exact s.setChannel_keepsOutputs i _ (.inl (marks _).1) (.inl (marks _).2)
  · refine clears.trans ?_
    dsimp only
    split
    · exact .refl _
    · exact (stops _).trans (State.setGroupState_keepsOutputs _ i _)

theorem execFeedbackEdge_keepsOutputs (i : Fin 6) (closed : Bool) (s : State) :
    s.KeepsOutputsIn (execFeedbackEdge i closed s) := by
  unfold execFeedbackEdge
  split
  · exact (State.KeepsOutputs.refl s).next
  · exact State.KeepsOutputs.next (State.edge_keepsOutputs (State.takeEdge_keepsOutputs i closed))

theorem execConfirmationWindowExpiry_keepsOutputs (i : Fin 6) (s : State) :
    s.KeepsOutputsIn (execConfirmationWindowExpiry i s) := by
  refine onExpiry_keepsOutputs fun d _ => ?_
  dsimp only
  refine (State.setChannel_keepsOutputs _ i { (s.advanceTo d).channel i with window := none } (.inl rfl) (.inl rfl)).trans ?_
  split
  · exact .refl _
  · exact ((State.setGroupState_keepsOutputs _ i _).trans (State.raise_keepsOutputs _ _)).trans
      (State.finish_keepsOutputs _)

theorem execGroupPulseEnd_keepsOutputs (i : Fin 6) (which : GroupPulse) (s : State) :
    s.KeepsOutputsIn (execGroupPulseEnd i which s) :=
  onExpiry_keepsOutputs fun _ _ => State.endGroupPulse_keepsOutputs _ i which

/-- By the instant at which the close spacing timer expires every TRIP pulse is over (R114). -/
theorem execCloseSpacingExpiry_keepsOutputs (s : State) : s.KeepsOutputsIn (execCloseSpacingExpiry s) := by
  refine onExpiry_keepsOutputs fun d running => .of_groups (Groups.set_frame _ _) fun h i a trip => ?_
  obtain ⟨near, spaced, closed⟩ := h i a trip
  refine ⟨near, .inl (spaced.elim id ?_), closed⟩
  rintro ⟨c, spacing, far⟩
  obtain rfl : d = c := Option.some.inj (running.symm.trans spacing)
  show a ≤ max s.now d
  omega

theorem execHandoffTimerExpiry_keepsOutputs (s : State) : s.KeepsOutputsIn (execHandoffTimerExpiry s) := by
  refine onExpiry_keepsOutputs fun _ _ => ?_
  split
  · exact .refl _
  · exact (((Ladder.set_keepsOutputs _ _).trans (State.takeStep_keepsOutputs _)).trans
      (State.nextStep_keepsOutputs _)).trans (State.finish_keepsOutputs _)

theorem State.restoreCheck_keepsOutputs (s : State) : s.KeepsOutputs s.restoreCheck := by
  unfold State.restoreCheck
  dsimp only
  split
  · exact Ladder.set_keepsOutputs s _
  · exact .ite (Ladder.set_keepsOutputs s _) fun _ => State.commandRestore_keepsOutputs _ _

theorem execRestoreCheck_keepsOutputs (s : State) : s.KeepsOutputsIn (execRestoreCheck s) :=
  onExpiry_keepsOutputs fun _ _ => ((Ladder.set_keepsOutputs _ _).trans (State.restoreCheck_keepsOutputs _)).trans
    (State.finish_keepsOutputs _)

theorem execActionAgeTick_keepsOutputs (s : State) : s.KeepsOutputsIn (execActionAgeTick s) :=
  onExpiry_keepsOutputs fun _ _ => Ladder.set_keepsOutputs _ _

/-! ### The claims (Section 9) -/

theorem State.withdraw_keepsOutputs (s : State) (n : Fin 2) : s.KeepsOutputs (s.withdraw n) :=
  s.setClaimState_keepsOutputs n Claim.reset (by simp [Claim.reset]) (by simp [Claim.reset])

theorem execRequestRising_keepsOutputs (n : Fin 2) (s : State) : s.KeepsOutputsIn (execRequestRising n s) := by
  unfold execRequestRising
  split
  · exact (State.KeepsOutputs.refl s).next
  · exact State.KeepsOutputs.next (State.edge_keepsOutputs (State.takeRequest_keepsOutputs · n))

theorem execRequestFalling_keepsOutputs (n : Fin 2) (s : State) : s.KeepsOutputsIn (execRequestFalling n s) := by
  unfold execRequestFalling
  split
  · exact State.KeepsOutputs.next (State.edge_keepsOutputs (State.withdraw_keepsOutputs · n))
  · exact (State.KeepsOutputs.refl s).next

theorem execClaimWindowExpiry_keepsOutputs (n : Fin 2) (s : State) : s.KeepsOutputsIn (execClaimWindowExpiry n s) :=
  onExpiryWhen_keepsOutputs fun claiming d => (State.judgeWindow_keepsOutputs (s.advanceTo d) n claiming).trans
    (State.finish_keepsOutputs _)

theorem execRetestTimerExpiry_keepsOutputs (s : State) : s.KeepsOutputsIn (execRetestTimerExpiry s) := by
  have restarts (u : State) (t : Timer) : u.KeepsOutputs { u with admission := { u.admission with retest := t } } :=
    .of_stands rfl rfl rfl rfl le_rfl id rfl id fun _ => id
  exact onExpiry_keepsOutputs fun _ _ => ((restarts _ _).trans (.foldl State.retestClaim_keepsOutputs _ _)).trans
    (State.finish_keepsOutputs _)

theorem execWaitingTimerExpiry_keepsOutputs (n : Fin 2) (s : State) : s.KeepsOutputsIn (execWaitingTimerExpiry n s) :=
  onExpiry_keepsOutputs fun _ _ => (State.waitedOut_keepsOutputs _ n).trans (State.finish_keepsOutputs _)

/-- A GRANTED claim keeps its GRANT closed as it enters CONSUMING (R156, R158). -/
theorem execHoldTimerExpiry_keepsOutputs (n : Fin 2) (s : State) : s.KeepsOutputsIn (execHoldTimerExpiry n s) := by
  refine onExpiryWhen_keepsOutputs fun granted d => .trans (State.setClaimState_keepsOutputs _ n _ (fun h => ?_) fun h => ?_)
    (State.finish_keepsOutputs _)
  · simpa using (h n).2 (.inl granted)
  · have inTime : (s.claim n).outOfTime = false := h.clear (n := n) (by simp [granted])
    simp [inTime]

theorem execClaimAgeTick_keepsOutputs (n : Fin 2) (s : State) : s.KeepsOutputsIn (execClaimAgeTick n s) :=
  onExpiry_keepsOutputs fun _ _ => State.setClaim_keepsOutputs _ n _ (fun h => h n) fun h => h n

/-! ### The service port (Section 11) -/

theorem State.setService_keepsOutputs (s : State) (p : Service) : s.KeepsOutputs { s with service := p } :=
  .of_stands rfl rfl rfl rfl le_rfl id rfl id fun _ => id

theorem State.serveClearCounters_keepsOutputs (s : State) : s.KeepsOutputs s.serveClearCounters.1 := by
  refine .trans (.foldl (fun u i => u.setEntry_keepsOutputs i (u.entry i).clearCounters) stations s) ?_
  exact .of_stands rfl rfl rfl rfl le_rfl id rfl id fun _ => id

theorem State.serveClearPhantom_keepsOutputs (s : State) (arg : Nat) : s.KeepsOutputs (s.serveClearPhantom arg).1 := by
  unfold State.serveClearPhantom
  split
  · exact .refl s
  · split
    · exact s.setEntry_spread_keepsOutputs _ _
    · exact .refl s

/-- INHIBIT and ENABLE where they change a group's state (R119, R120). -/
theorem State.clearMarks_keepsOutputs (s : State) (i : Fin 6) (st : GroupState) :
    s.KeepsOutputs ((s.clearMarks i).setGroupState i st).finish := by
  have clears : s.KeepsOutputs (s.clearMarks i) := s.setChannel_keepsOutputs i _ (.inl rfl) (.inl rfl)
  exact (clears.trans (State.setGroupState_keepsOutputs _ i st)).trans (State.finish_keepsOutputs _)

theorem State.serveInhibit_keepsOutputs (s : State) (arg : Nat) : s.KeepsOutputs (s.serveInhibit arg).1 := by
  unfold State.serveInhibit
  split
  case h_1 | h_2 | h_3 | h_4 => exact .refl s
  all_goals exact s.clearMarks_keepsOutputs _ _

theorem State.serveEnable_keepsOutputs (s : State) (arg : Nat) : s.KeepsOutputs (s.serveEnable arg).1 := by
  unfold State.serveEnable
  split
  · exact .refl s
  · exact s.clearMarks_keepsOutputs _ _
  · exact .refl s

/-- A restart in progress is a mark of the loader's, in the same mode (R170). -/
theorem State.setRestart_keepsOutputs (s : State) (mark : Bool) :
    s.KeepsOutputs { s with loader := { s.loader with restartInProgress := mark } } :=
  .of_stands rfl rfl rfl rfl le_rfl id rfl id fun _ => id

theorem State.serveRestart_keepsOutputs (s : State) : s.KeepsOutputs s.serveRestart.1 := by
  unfold State.serveRestart
  split
  · exact s.setRestart_keepsOutputs true
  · exact .refl s

/-- Every request that is served keeps the outputs (R174). -/
theorem State.serve_keepsOutputs (s : State) (kind arg : Nat) : s.KeepsOutputs (s.serve kind arg).1 := by
  unfold State.serve
  split
  case h_2 => rw [State.servePeer_fst]; exact .refl s
  case h_8 => exact s.clearLatches_frame.keepsOutputs
  case h_9 => exact s.serveClearCounters_keepsOutputs
  case h_10 => exact s.serveClearPhantom_keepsOutputs arg
  case h_11 => exact s.serveInhibit_keepsOutputs arg
  case h_12 => exact s.serveEnable_keepsOutputs arg
  case h_13 => exact s.serveRestart_keepsOutputs
  all_goals exact .refl s

theorem State.takeMessage_keepsOutputs (s : State) (bs : List Byte) : s.KeepsOutputs (s.takeMessage bs) := by
  unfold State.takeMessage
  dsimp only
  split
  · exact (s.serve_keepsOutputs _ _).trans (State.setService_keepsOutputs _ _)
  · exact s.setService_keepsOutputs _

theorem State.takeByte_keepsOutputs (s : State) (b : Byte) : s.KeepsOutputs (s.takeByte b) := by
  unfold State.takeByte
  split
  · split <;> exact s.setService_keepsOutputs _
  · unfold State.receiveByte
    dsimp only
    split
    · split <;> exact s.setService_keepsOutputs _
    · split
      · exact s.takeMessage_keepsOutputs _
      · exact s.setService_keepsOutputs _
  · exact s.setService_keepsOutputs _
  · exact s.setService_keepsOutputs _

theorem serviceRequest_keepsOutputs (bs : List Byte) (s : State) : s.KeepsOutputsIn (serviceRequest bs s) :=
  whileAwake_keepsOutputs (.foldl State.takeByte_keepsOutputs _ s)

theorem execServiceByteReceived_keepsOutputs (b : Byte) (s : State) : s.KeepsOutputsIn (execServiceByteReceived b s) :=
  whileAwake_keepsOutputs (s.takeByte_keepsOutputs b)

theorem execServiceGapExpiry_keepsOutputs (s : State) : s.KeepsOutputsIn (execServiceGapExpiry s) := by
  refine onExpiry_keepsOutputs fun _ _ => ?_
  unfold State.endGap
  dsimp only
  split
  · exact State.setService_keepsOutputs _ _
  · split <;> exact State.setService_keepsOutputs _ _
  · exact State.setService_keepsOutputs _ _
  · exact State.setService_keepsOutputs _ _

theorem State.endResponse_keepsOutputs (s : State) : s.KeepsOutputs s.endResponse := by
  unfold State.endResponse
  dsimp only
  split <;> exact s.setService_keepsOutputs _

theorem execResponseSent_keepsOutputs (s : State) : s.KeepsOutputsIn (execResponseSent s) := by
  refine whileAwake_keepsOutputs ?_
  split
  · split
    · split
      · exact s.enterLoad_keepsOutputs
      · exact (s.setRestart_keepsOutputs false).trans (State.endResponse_keepsOutputs _)
    · exact s.endResponse_keepsOutputs
  · exact .refl s

/-! ### Every command and every step -/

/-- Every command keeps the card's outputs safe. -/
theorem exec_keepsOutputs (c : Instr) (s : State) : s.KeepsOutputsIn (exec c s) := by
  cases c with
  | powerOn => exact s.enterLoad_keepsOutputs.next
  | loadReadDone straps image => exact execLoadReadDone_keepsOutputs straps image s
  | loadTimeout straps image => exact execLoadTimeout_keepsOutputs straps image s
  | listenTimerExpiry => exact execListenTimerExpiry_keepsOutputs s
  | receptionEnd l rx => exact execReceptionEnd_keepsOutputs l rx s
  | sendStart l => exact execSendStart_keepsOutputs l s
  | frameComplete l => exact execFrameComplete_keepsOutputs l s
  | collision l => exact execCollision_keepsOutputs l s
  | jamEnd l => exact execJamEnd_keepsOutputs l s
  | backoffExpiry l => exact execBackoffExpiry_keepsOutputs l s
  | stuckEntry l began => exact execStuckEntry_keepsOutputs l began s
  | driverTestLaneIdle l => exact execDriverTestLaneIdle_keepsOutputs l s
  | driverTestExpiry l => exact execDriverTestExpiry_keepsOutputs l s
  | isolatedLaneIdle l => exact execIsolatedLaneIdle_keepsOutputs l s
  | stuckEnd l => exact execStuckEnd_keepsOutputs l s
  | errorWindowExpiry l => exact execErrorWindowExpiry_keepsOutputs l s
  | silenceTimerExpiry l => exact execSilenceTimerExpiry_keepsOutputs l s
  | frameTimerExpiry => exact execFrameTimerExpiry_keepsOutputs s
  | spacingTimerExpiry => exact execSpacingTimerExpiry_keepsOutputs s
  | intake => exact execIntake_keepsOutputs s
  | entryTimer350 i => exact execEntryTimer350_keepsOutputs i s
  | entryTimer1000 i => exact execEntryTimer1000_keepsOutputs i s
  | lanesHeardExpiry i l => exact execLanesHeardExpiry_keepsOutputs i l s
  | tieInputChange tie closed => exact execTieInputChange_keepsOutputs tie closed s
  | tieFilterExpiry tie => exact execTieFilterExpiry_keepsOutputs tie s
  | returnTimerExpiry => exact execReturnTimerExpiry_keepsOutputs s
  | meteringIntervalExpiry m => exact execMeteringIntervalExpiry_keepsOutputs m s
  | breakerCloseEdge => exact execBreakerCloseEdge_keepsOutputs s
  | breakerOpenEdge => exact execBreakerOpenEdge_keepsOutputs s
  | runningEdge high => exact execRunningEdge_keepsOutputs high s
  | availableEdge high => exact execAvailableEdge_keepsOutputs high s
  | unloadEdge high => exact execUnloadEdge_keepsOutputs high s
  | startTimerExpiry => exact execStartTimerExpiry_keepsOutputs s
  | unloadTimerExpiry => exact execUnloadTimerExpiry_keepsOutputs s
  | openingTimerExpiry => exact execOpeningTimerExpiry_keepsOutputs s
  | setPulseEnd which => exact execSetPulseEnd_keepsOutputs which s
  | evaluation => exact execEvaluation_keepsOutputs s
  | tripRecentTimerExpiry => exact execTripRecentTimerExpiry_keepsOutputs s
  | feedbackEdge i closed => exact execFeedbackEdge_keepsOutputs i closed s
  | confirmationWindowExpiry i => exact execConfirmationWindowExpiry_keepsOutputs i s
  | groupPulseEnd i which => exact execGroupPulseEnd_keepsOutputs i which s
  | closeSpacingExpiry => exact execCloseSpacingExpiry_keepsOutputs s
  | handoffTimerExpiry => exact execHandoffTimerExpiry_keepsOutputs s
  | restoreCheck => exact execRestoreCheck_keepsOutputs s
  | actionAgeTick => exact execActionAgeTick_keepsOutputs s
  | requestRising n => exact execRequestRising_keepsOutputs n s
  | requestFalling n => exact execRequestFalling_keepsOutputs n s
  | claimWindowExpiry n => exact execClaimWindowExpiry_keepsOutputs n s
  | retestTimerExpiry => exact execRetestTimerExpiry_keepsOutputs s
  | waitingTimerExpiry n => exact execWaitingTimerExpiry_keepsOutputs n s
  | holdTimerExpiry n => exact execHoldTimerExpiry_keepsOutputs n s
  | claimAgeTick n => exact execClaimAgeTick_keepsOutputs n s
  | serviceGapExpiry => exact execServiceGapExpiry_keepsOutputs s
  | badRequest bytes => exact serviceRequest_keepsOutputs bytes s
  | responseSent => exact execResponseSent_keepsOutputs s
  | status => exact serviceRequest_keepsOutputs _ s
  | peer arg => exact serviceRequest_keepsOutputs _ s
  | ladder => exact serviceRequest_keepsOutputs _ s
  | claims => exact serviceRequest_keepsOutputs _ s
  | groups => exact serviceRequest_keepsOutputs _ s
  | alarms => exact serviceRequest_keepsOutputs _ s
  | counters => exact serviceRequest_keepsOutputs _ s
  | clearAlarms => exact serviceRequest_keepsOutputs _ s
  | clearCounters => exact serviceRequest_keepsOutputs _ s
  | clearPhantom arg => exact serviceRequest_keepsOutputs _ s
  | inhibit arg => exact serviceRequest_keepsOutputs _ s
  | enable arg => exact serviceRequest_keepsOutputs _ s
  | restart => exact serviceRequest_keepsOutputs _ s
  | serviceByteReceived b => exact execServiceByteReceived_keepsOutputs b s
  | receptionBegins l => exact execReceptionBegins_keepsOutputs l s
  | lossOfPower => exact execLossOfPower_keepsOutputs s

/-- Every step keeps the card's outputs safe: with a command at the front of the queue by that command, and otherwise as
time alone passes. -/
theorem step_keepsOutputs (s : State) : s.KeepsOutputsIn (step s) := by
  have takes (rest : List Instr) : s.KeepsOutputs { s with pending := rest } :=
    .of_stands rfl rfl rfl rfl le_rfl id rfl id fun _ => id
  unfold step
  split
  · exact (s.advanceTo_keepsOutputs _).next
  · next c rest _ => exact fun t taken => (takes rest).trans (exec_keepsOutputs c _ t taken)

/-- Settles O57, from what every command keeps: no output's safety rests on another's. -/
theorem stepKeepsOutputsSafe : Obligations.StepKeepsOutputsSafe :=
  ⟨fun s t safe h => (step_keepsOutputs s t h).biases safe, fun s t safe h => (step_keepsOutputs s t h).engine safe,
    fun s t safe h => (step_keepsOutputs s t h).pulses safe, fun s t safe h => (step_keepsOutputs s t h).grants safe,
    fun s t safe h => (step_keepsOutputs s t h).marks safe⟩

end Sys2Proof.Machine
end

section
/-! The share regulator (R59 to R72): what a delivered record makes of the biases, of the ramp target and, by the regulator's
notices, of the set (R86, R88 to R90, R93). -/

namespace Sys2Proof.Machine

/-! ### The case of a record (R59) -/

theorem recordCase_offline {run : Bool} {st : SetState} (off : run = false ∨ st.online = false) (mode : SharingMode)
    (valid : Bool) : recordCase run st mode valid = .offline := by
  rw [recordCase, if_pos (by simpa using off)]

theorem recordCase_held {run valid : Bool} {st : SetState} {mode : SharingMode} (running : run = true)
    (online : st.online = true) (held : mode = .droop ∨ valid = false ∨ st = .opening) :
    recordCase run st mode valid = .held := by
  rw [recordCase, if_neg (by simp [running, online]), if_pos (by simpa [or_assoc] using held)]

theorem recordCase_of_not_held {run valid : Bool} {st : SetState} {mode : SharingMode} (running : run = true)
    (online : st.online = true) (free : ¬ (mode = .droop ∨ valid = false ∨ st = .opening)) :
    recordCase run st mode valid = .worked := by
  simpa [recordCase, running, online, or_assoc] using free

/-! ### The ramp and the increments (R63 to R71) -/

/-- The real-power target of a worked record, by the set state and the ramp target that the record finds (R63 to R66). -/
def realTarget (step : Nat) (st : SetState) (ramp : Option Int) (own : Int) (pStar : Option Int) : Option Int :=
  match st, ramp with
  | .loading, some ramp => pStar.map (min (ramp + step))
  | .unloading, some ramp => some (max (ramp - step) 500)
  | .sharing, _ => pStar
  | _, _ => some own

theorem stepRamp_target {st : SetState} (worked : st = .loading ∨ st = .sharing ∨ st = .unloading) (step : Nat)
    (ramp : Option Int) (own : Int) (pStar : Option Int) :
    (stepRamp step st ramp own pStar).target = realTarget step st ramp own pStar := by
  rcases worked with rfl | rfl | rfl
  · cases ramp <;> cases pStar <;> rfl
  · rfl
  · cases ramp <;> rfl

/-- The reactive error is 0 for an empty pool (R62, R69). -/
theorem errorOf_poolTarget (band load : Int) (rating : Nat) (actual : Int) :
    errorOf band (poolTarget load rating) actual =
      if rating = 0 then 0 else clampInt (-2000) 2000 (deadband band (perUnit load rating - actual)) := by
  unfold poolTarget
  split <;> rfl

theorem workRecord_speedBias (c : Configuration) (isl : Island) {st : SetState} (reg : Regulator) (r : MeterRecord)
    (worked : st = .loading ∨ st = .sharing ∨ st = .unloading) :
    (workRecord c isl st reg r).1.speedBias = moveBias reg.speedBias (increment c.kp
      (errorOf 50 (realTarget c.rampStep st reg.rampTarget (perUnit r.p c.rating) (poolTarget isl.pPool isl.rPool))
        (perUnit r.p c.rating)) c.kf (errorOf 20 (some c.fNom) r.frequency)) := by
  rw [← stepRamp_target worked]
  rfl

theorem workRecord_voltBias (c : Configuration) (isl : Island) (st : SetState) (reg : Regulator) (r : MeterRecord) :
    (workRecord c isl st reg r).1.voltBias = moveBias reg.voltBias (increment c.kq
      (if isl.qrPool = 0 then 0 else
        clampInt (-2000) 2000 (deadband 100 (perUnit isl.qPool isl.qrPool - perUnit r.q c.reactiveRating)))
      c.kv (errorOf 10 (some c.vNom) r.voltage)) := by
  rw [← errorOf_poolTarget]
  rfl

/-! ### What a notice leaves of the biases (R64, R73) -/

/-- On the bus a change of the set state sets the ramp target alone (R64, R73). -/
theorem Regulator.onState_bus {st : SetState} (bus : st.offBus = false) (reg : Regulator) (run : Bool) (p : Int) :
    reg.onState st run p
      = { reg with rampTarget := if (st = .loading ∨ st = .unloading) ∧ run then some p else none } := by
  simp [Regulator.onState, bus]

/-- Into UNLOADING the ramp target takes the own load in RUN, and is unset elsewhere (R64). -/
theorem State.onState_unloading (s : State) (p : Int) : s.regulator.onState .unloading s.inRun p
    = { s.regulator with rampTarget := if s.loader.mode = .run then some p else none } := by
  rw [Regulator.onState_bus rfl]
  by_cases run : s.loader.mode = .run <;> simp [State.inRun, State.mode, run]

/-- From `s` to `t` the biases stand. -/
def State.SameBiases (s t : State) : Prop :=
  t.regulator.speedBias = s.regulator.speedBias ∧ t.regulator.voltBias = s.regulator.voltBias

theorem State.setSetState_sameBiases (s : State) (q : Sequencer) {st : SetState} (bus : st.offBus = false) :
    s.SameBiases (State.setSetState { s with seq := q } st) := by
  unfold State.SameBiases
  rw [State.setSetState_regulator, Regulator.onState_bus bus]
  exact ⟨rfl, rfl⟩

theorem State.SameBiases.trans {s t u : State} (h : s.SameBiases t) (k : t.SameBiases u) : s.SameBiases u :=
  ⟨k.1.trans h.1, k.2.trans h.2⟩

/-- The set states that the regulator's notices lead to are on the bus (R86, R88, R93). -/
theorem State.takeNotice_sameBiases (s : State) (n : Option Notice) : s.SameBiases (s.takeNotice n) := by
  have judges (u : State) : u.SameBiases u.judgeUnload := by
    unfold State.judgeUnload
    split
    · exact u.setSetState_sameBiases _ rfl
    · exact ⟨rfl, rfl⟩
  match n with
  | none => exact ⟨rfl, rfl⟩
  | some .loadingComplete =>
    show s.SameBiases s.takeLoadingComplete
    have shares : s.SameBiases (s.setSetState .sharing) := s.setSetState_sameBiases s.seq rfl
    unfold State.takeLoadingComplete
    dsimp only
    split
    · split
      · exact shares.trans (judges _)
      · exact shares
    · exact ⟨rfl, rfl⟩
  | some .unloaded =>
    show s.SameBiases s.takeUnloaded
    unfold State.takeUnloaded
    split
    · exact s.setSetState_sameBiases _ rfl
    · exact ⟨rfl, rfl⟩

/-! ### A delivered record and the set -/

/-- What the regulator makes of a delivered record (R57, R59). -/
def State.regulated (s : State) (d : Nat) (r : MeterRecord) : Regulator × Option Notice :=
  regulate s.conf s.inRun (s.takenRecord d r).island s.seq.state s.regulator r

/-- The card once the regulator has taken a delivered record, its notice not yet taken (R57, R59). -/
def State.workedRecord (s : State) (d : Nat) (r : MeterRecord) : State :=
  { s.takenRecord d r with regulator := (s.regulated d r).1 }

theorem State.regulatedRecord_eq (s : State) (d : Nat) (r : MeterRecord) :
    s.regulatedRecord d r = (s.workedRecord d r).takeNotice (s.regulated d r).2 := rfl

theorem State.regulated_offline {s : State} (d : Nat) (r : MeterRecord)
    (off : s.loader.mode ≠ .run ∨ s.seq.state.online = false) : s.regulated d r = (s.regulator, none) := by
  have out : s.inRun = false ∨ s.seq.state.online = false := off.imp_left decide_eq_false
  rw [State.regulated, regulate, recordCase_offline out]

theorem State.regulated_held {s : State} {d : Nat} {r : MeterRecord} (run : s.loader.mode = .run)
    (online : s.seq.state.online = true)
    (held : (s.takenRecord d r).island.mode = .droop ∨ r.busValid = false ∨ s.seq.state = .opening) :
    s.regulated d r = (holdRecord s.conf s.seq.state s.regulator r, none) := by
  have running : s.inRun = true := decide_eq_true run
  rw [State.regulated, regulate, recordCase_held running online held]

theorem State.regulated_worked {s : State} {d : Nat} {r : MeterRecord} (run : s.loader.mode = .run)
    (online : s.seq.state.online = true)
    (free : ¬ ((s.takenRecord d r).island.mode = .droop ∨ r.busValid = false ∨ s.seq.state = .opening)) :
    s.regulated d r = workRecord s.conf (s.takenRecord d r).island s.seq.state s.regulator r := by
  have running : s.inRun = true := decide_eq_true run
  rw [State.regulated, regulate, recordCase_of_not_held running online free]

/-- The stage counters and the end of the event leave the set, the regulator and the clock, and clear no latch. -/
theorem State.stagedRecord_stands (s : State) (d : Nat) (r : MeterRecord) :
    let t := (s.stagedRecord d r).finish
    t.seq = (s.regulatedRecord d r).seq ∧ t.regulator = (s.regulatedRecord d r).regulator ∧ t.now = max s.now d
      ∧ (s.regulatedRecord d r).keepsLatches t := by
  have stages := (s.regulatedRecord d r).stepStages_frame (s.takenRecord d r).island r
  refine ⟨(State.finish_seq _).trans (stages .seq (by decide)),
    (State.finish_regulator _).trans (stages .regulator (by decide)),
    (State.finish_now _).trans (s.stagedRecord_kept d r).2.2.2, ?_⟩
  exact State.keepsLatches.trans (State.stepStages_moves _ _ r).1.2.1 (State.finish_latches _)

/-- Settles O31: the record's case decides, and the notice that may follow leaves the biases. -/
theorem recordMovesTheBiases : Obligations.RecordMovesTheBiases := by
  intro s m d delivers r isl share own held pStar target eP eQ eF eV
  obtain ⟨seq, regulator, -, -⟩ := s.stagedRecord_stands d r
  rw [State.regulatedRecord_eq] at seq regulator
  refine ⟨_, exec_meteringInterval_delivers delivers, fun off => ?_, fun run online holds => ?_, fun run online free => ?_⟩
  · have out := State.regulated_offline d r off
    rw [out] at seq regulator
    exact ⟨regulator.trans (congrArg Prod.fst out), seq⟩
  · have out := State.regulated_held run online holds
    rw [out] at seq regulator
    refine ⟨seq, (regulator.trans (congrArg Prod.fst out)).trans ?_⟩
    unfold holdRecord
    split <;> rfl
  · have out := State.regulated_worked run online free
    have state : s.seq.state = .loading ∨ s.seq.state = .sharing ∨ s.seq.state = .unloading := by
      have closed : s.seq.state ≠ .opening := fun opening => free (.inr (.inr opening))
      cases e : s.seq.state <;> simp_all [SetState.online]
    obtain ⟨speed, volt⟩ := State.takeNotice_sameBiases (s.workedRecord d r) (s.regulated d r).2
    rw [← regulator] at speed volt
    refine ⟨speed.trans ?_, volt.trans ?_⟩
    · show (s.regulated d r).1.speedBias = _
      rw [out, workRecord_speedBias _ _ _ _ state]
      rfl
    · show (s.regulated d r).1.voltBias = _
      rw [out, workRecord_voltBias]
      rfl

end Sys2Proof.Machine
end

section
/-! The own set's unload request (R75, R88 to R90). -/

namespace Sys2Proof.Machine

/-- The unload check in the statements' words (R88). -/
theorem State.unloadCheck_iff (s : State) : s.unloadCheck = true
    ↔ 2 ≤ s.island.online ∧ 100 * s.island.pLoad ≤ 95 * ((s.island.rCap : Int) - s.conf.rating) := by
  simp [State.unloadCheck]

theorem State.judgeUnload_passes {s : State} (passes : s.unloadCheck = true) :
    s.judgeUnload = s.enterUnloading .manual := if_pos passes

theorem State.judgeUnload_refuses {s : State} (fails : ¬ s.unloadCheck = true) :
    s.judgeUnload = s.raise .unloadRefused := if_neg fails

/-- A passed unload check leads to UNLOADING, urgently reported (R15, R64, R76, R90). -/
theorem State.judgeUnload_followed {s b : State} (state : s.seq.state = .sharing) (passes : b.unloadCheck = true) :
    s.Followed { b with
      seq := { b.seq with state := .unloading, unloadKind := .manual, unloadTimer := some (b.now + 60000000) }
      regulator := { b.regulator with rampTarget := (if b.loader.mode = .run then
        some (perUnit b.island.ownP b.conf.rating) else none) } } b.judgeUnload.finish := by
  rw [State.judgeUnload_passes passes, ← State.onState_unloading]
  exact State.setSetState_followed (by simp [state])

/-- A refused request is reported, and nothing else follows (R88, log entry 7). -/
theorem State.judgeUnload_refused {s b : State} (stands : ¬ s.Urges b) (fails : ¬ b.unloadCheck = true) :
    s.Followed b b.judgeUnload.finish ∧ .unloadRefused ∈ b.judgeUnload.finish.alarms.latched := by
  rw [State.judgeUnload_refuses fails]
  exact ⟨(b.raise_requested _).followed_plain stands rfl, State.finish_latches _ _ ((b.mem_raise _ _).2 (.inr rfl))⟩

/-- Of the sequencer the set state alone is reported at once (R15, R76). -/
theorem State.not_urges_of_setState {s t : State} (state : t.seq.state = s.seq.state) (groups : t.groups = s.groups)
    (admission : t.admission = s.admission) : ¬ s.Urges t := by
  simp [State.Urges, State.channel, State.claim, state, groups, admission]

theorem execUnloadEdge_rises {s : State} (awake : s.Awake) (edge : s.pins.unload ≠ true) :
    exec (.unloadEdge true) s = .next { s with pins := { s.pins with unload := true } }.unloadRises.finish := by
  have up : State.awake { s with pins := { s.pins with unload := true } } = true := State.Awake.awake awake
  exact (if_neg edge).trans (congrArg _ (if_pos ⟨up, rfl⟩))

theorem execUnloadEdge_falls {s : State} (edge : s.pins.unload ≠ false) :
    exec (.unloadEdge false) s = .next { s with pins := { s.pins with unload := false } } :=
  (if_neg edge).trans (congrArg _ (if_neg fun high => nomatch high.2))

theorem State.unloadRises_sharing {s : State} (state : s.seq.state = .sharing) : s.unloadRises = s.judgeUnload := by
  rw [State.unloadRises, state]

theorem State.unloadRises_loading {s : State} (state : s.seq.state = .loading) :
    s.unloadRises = { s with seq := { s.seq with pendingUnload := true } } := by
  rw [State.unloadRises, state]

theorem State.unloadRises_unloading {s : State} (state : s.seq.state = .unloading) :
    s.unloadRises = { s with seq := { s.seq with unloadKind := .manual } } := by
  rw [State.unloadRises, state]

theorem State.unloadRises_ignored {s : State} (other : s.seq.state ∉ [SetState.sharing, .loading, .unloading]) :
    s.unloadRises = s := by
  unfold State.unloadRises
  split <;> simp_all

/-- Settles O37: a rising edge is taken by the own set state, a falling one by the level alone. -/
theorem unloadRequestIsTaken : Obligations.UnloadRequestIsTaken := by
  intro s high awake edge b passes
  cases high with
  | false => exact ⟨b, execUnloadEdge_falls edge, nofun, nofun, nofun, nofun, nofun, fun _ => rfl⟩
  | true =>
    have asks : b.unloadCheck = true ↔ passes := b.unloadCheck_iff
    have plain (q : Sequencer) (state : q.state = s.seq.state) :
        s.Followed { b with seq := q } (State.finish { b with seq := q }) :=
      (State.Requested.refl _).followed_plain (State.not_urges_of_setState state rfl rfl) rfl
    refine ⟨b.unloadRises.finish, execUnloadEdge_rises awake edge, fun _ state ok => ?_, fun _ state no => ?_,
      fun _ state => ?_, fun _ state => ?_, fun _ other => ?_, nofun⟩
    · rw [State.unloadRises_sharing (s := b) state]
      exact State.judgeUnload_followed state (asks.2 ok)
    · rw [State.unloadRises_sharing (s := b) state]
      exact State.judgeUnload_refused (State.not_urges_of_setState rfl rfl rfl) (mt asks.1 no)
    · rw [State.unloadRises_loading (s := b) state]
      exact plain _ rfl
    · rw [State.unloadRises_unloading (s := b) state]
      exact plain _ rfl
    · rw [State.unloadRises_ignored (s := b) other]
      exact plain s.seq rfl

end Sys2Proof.Machine
end

section
/-! The regulator's notices at a worked record, and what they make of the set (R64 to R67, R86, R88 to R90, R93). -/

namespace Sys2Proof.Machine

/-! ### The ramp target and the notice of a worked record (R63 to R67) -/

section
variable (c : Configuration) (isl : Island) (r : MeterRecord)

/-- An unset ramp target takes the own load, and the set stays in LOADING (R64, log entry 31). -/
theorem workRecord_loading_unset {reg : Regulator} (unset : reg.rampTarget = none) :
    (workRecord c isl .loading reg r).2 = none
      ∧ (workRecord c isl .loading reg r).1.rampTarget = some (perUnit r.p c.rating) := by
  simp [workRecord, unset, stepRamp, noticeOf]

/-- Below the pool's share the ramp target rises by a whole step (R65). -/
theorem workRecord_loading_below {reg : Regulator} {ramp : Int} (set : reg.rampTarget = some ramp)
    (pool : isl.rPool ≠ 0) (below : ramp + c.rampStep < perUnit isl.pPool isl.rPool) :
    (workRecord c isl .loading reg r).2 = none
      ∧ (workRecord c isl .loading reg r).1.rampTarget = some (ramp + c.rampStep) := by
  simp [workRecord, set, poolTarget, pool, stepRamp, noticeOf, below.le, below.ne]

/-- With an empty pool, and on reaching its share, loading is complete (R65). -/
theorem workRecord_loading_reached {reg : Regulator} {ramp : Int} (set : reg.rampTarget = some ramp)
    (reached : isl.rPool = 0 ∨ perUnit isl.pPool isl.rPool ≤ ramp + c.rampStep) :
    (workRecord c isl .loading reg r).2 = some .loadingComplete := by
  by_cases pool : isl.rPool = 0
  · simp [workRecord, set, poolTarget, pool, stepRamp, noticeOf]
  · simp [workRecord, set, poolTarget, pool, stepRamp, noticeOf, reached.resolve_left pool]

/-- Above 600 the ramp target falls on, down to 500 (R66). -/
theorem workRecord_unloading_above (reg : Regulator) (above : 600 < perUnit r.p c.rating) :
    (workRecord c isl .unloading reg r).2 = none
      ∧ (workRecord c isl .unloading reg r).1.rampTarget = some (match reg.rampTarget with
          | none => perUnit r.p c.rating
          | some ramp => max (ramp - c.rampStep) 500) := by
  cases set : reg.rampTarget <;> simp [workRecord, set, stepRamp, noticeOf, above]

/-- From 600 down the set is unloaded (R67). -/
theorem workRecord_unloading_done (reg : Regulator) (low : perUnit r.p c.rating ≤ 600) :
    (workRecord c isl .unloading reg r).2 = some .unloaded := by
  cases set : reg.rampTarget <;> simp [workRecord, set, stepRamp, noticeOf, low]

end

/-! ### The unload check at the entry to SHARING (R88, R89) -/

/-- A contribution but for its place in the pool: what the island's load, capacity and online count are summed from
(R47). -/
def Contribution.outOfPool (c : Contribution) : Contribution := { c with inPool := false }

theorem loadOf_outOfPool (cs : List Contribution) : loadOf (cs.map Contribution.outOfPool) = loadOf cs := by
  simp [loadOf, List.filter_map, Function.comp_def, Contribution.outOfPool]

theorem capacityOf_outOfPool (cs : List Contribution) : capacityOf (cs.map Contribution.outOfPool) = capacityOf cs := by
  simp [capacityOf, List.filter_map, Function.comp_def, Contribution.outOfPool]

/-- The online count of a list of contributions (R47). -/
def onlineOf (cs : List Contribution) : Nat := (cs.filter (·.inCapacity)).length

theorem onlineOf_outOfPool (cs : List Contribution) : onlineOf (cs.map Contribution.outOfPool) = onlineOf cs := by
  simp [onlineOf, List.filter_map, Function.comp_def, Contribution.outOfPool]

/-- A request to the composer is nothing that a resolution reads (R15, R48). -/
theorem State.request_resolve_island (s : State) (k : FrameKind) : (s.request k).resolve.island = s.resolve.island := by
  unfold State.request
  split <;> rfl

/-- The card with its own set state in SHARING, nothing else brought up to date. -/
def State.inSharing (s : State) : State := { s with seq := { s.seq with state := .sharing } }

/-- LOADING and SHARING contribute alike but to the pool (R44). -/
theorem State.contributionAt_inSharing {s : State} (loading : s.seq.state = .loading) (mode : SharingMode) (i : Station) :
    (s.inSharing.contributionAt mode i).map Contribution.outOfPool
      = (s.contributionAt mode i).map Contribution.outOfPool := by
  by_cases own : i = s.own
  · subst own
    rw [State.contributionAt_own s, show s.inSharing.contributionAt mode s.own = _ from s.inSharing.contributionAt_own mode]
    simp only [State.ownContribution, loading]
    rfl
  · rw [State.contributionAt_peer own, State.contributionAt_peer (s := s.inSharing) own]
    rfl

theorem State.contributions_inSharing {s : State} (loading : s.seq.state = .loading) (members : List Station)
    (mode : SharingMode) : (s.inSharing.contributions members mode).map Contribution.outOfPool
      = (s.contributions members mode).map Contribution.outOfPool := by
  simp only [State.contributions_eq, List.map_filterMap, State.contributionAt_inSharing loading]

/-- From LOADING to SHARING the island's load, capacity and online count stand (R44, R47). -/
theorem State.setSetState_sharing_island {s : State} (resolved : s.resolve.island = s.island)
    (loading : s.seq.state = .loading) :
    let isl := (s.setSetState .sharing).island
    isl.online = s.island.online ∧ isl.pLoad = s.island.pLoad ∧ isl.rCap = s.island.rCap := by
  intro isl
  have found : isl = s.inSharing.resolve.island := State.request_resolve_island _ _
  have same := State.contributions_inSharing loading s.resolveView.members s.resolveView.mode
  rw [found, ← resolved]
  refine ⟨?_, ?_, ?_⟩
  · exact (onlineOf_outOfPool _).symm.trans ((congrArg onlineOf same).trans (onlineOf_outOfPool _))
  · exact (loadOf_outOfPool _).symm.trans ((congrArg loadOf same).trans (loadOf_outOfPool _))
  · exact (capacityOf_outOfPool _).symm.trans ((congrArg capacityOf same).trans (capacityOf_outOfPool _))

/-! ### The notices at the set sequencer (R86, R89, R90, R93) -/

/-- Entering UNLOADING (R64, R90). -/
theorem State.enterUnloading_stands (s : State) (k : UnloadKind) :
    (s.enterUnloading k).seq
        = { s.seq with state := .unloading, unloadKind := k, unloadTimer := some (s.now + 60000000) }
      ∧ (s.enterUnloading k).regulator = { s.regulator with rampTarget :=
          (if s.loader.mode = .run then some (perUnit s.island.ownP s.conf.rating) else none) } :=
  ⟨State.setSetState_seq _ _, (State.setSetState_regulator _ _).trans (s.onState_unloading _)⟩

/-- Loading complete without a pending unload (R64, R86). -/
theorem State.takeLoadingComplete_shares {s : State} (loading : s.seq.state = .loading)
    (free : s.seq.pendingUnload = false) :
    s.takeLoadingComplete.seq = { s.seq with state := .sharing } ∧ s.takeLoadingComplete.regulator.rampTarget = none := by
  have shares : s.takeLoadingComplete = s.setSetState .sharing := by simp [State.takeLoadingComplete, loading, free]
  rw [shares]
  exact ⟨State.setSetState_seq _ _, by rw [State.setSetState_regulator, Regulator.onState_bus rfl]; rfl⟩

/-- The card at the entry to SHARING, with the pending unload taken up and not yet judged (R86, R89). -/
def State.sharesPending (s : State) : State :=
  { s.setSetState .sharing with seq := { s.seq with state := .sharing, pendingUnload := false } }

theorem State.takeLoadingComplete_judges {s : State} (loading : s.seq.state = .loading)
    (pending : s.seq.pendingUnload = true) : s.takeLoadingComplete = s.sharesPending.judgeUnload := by
  simp [State.takeLoadingComplete, loading, pending, State.sharesPending]

/-- The check of a pending unload finds the island as the record has left it (R88, R89). -/
theorem State.sharesPending_check {s : State} (resolved : s.resolve.island = s.island) (loading : s.seq.state = .loading) :
    s.sharesPending.unloadCheck = s.unloadCheck := by
  obtain ⟨online, load, capacity⟩ := State.setSetState_sharing_island resolved loading
  have conf : s.sharesPending.conf = s.conf := by simp [State.sharesPending, State.conf]
  unfold State.unloadCheck
  rw [conf]
  show (decide (2 ≤ (s.setSetState .sharing).island.online) && decide (100 * (s.setSetState .sharing).island.pLoad
    ≤ 95 * (((s.setSetState .sharing).island.rCap : Int) - s.conf.rating))) = _
  rw [online, load, capacity]

/-- A pending unload that passes leads on to UNLOADING (R64, R89, R90). -/
theorem State.takeLoadingComplete_unloads {s : State} (resolved : s.resolve.island = s.island)
    (loading : s.seq.state = .loading) (pending : s.seq.pendingUnload = true) (run : s.loader.mode = .run)
    (passes : s.unloadCheck = true) :
    s.takeLoadingComplete.seq = { s.seq with
        state := .unloading, pendingUnload := false, unloadKind := .manual, unloadTimer := some (s.now + 60000000) }
      ∧ s.takeLoadingComplete.regulator.rampTarget = some (perUnit s.island.ownP s.conf.rating) := by
  obtain ⟨seq, regulator⟩ := s.sharesPending.enterUnloading_stands .manual
  rw [State.takeLoadingComplete_judges loading pending,
    State.judgeUnload_passes ((State.sharesPending_check resolved loading).trans passes), seq, regulator]
  simp [State.sharesPending, State.conf, run]

/-- A pending unload that fails is refused, and the set stays in SHARING (R88, R89). -/
theorem State.takeLoadingComplete_refuses {s : State} (resolved : s.resolve.island = s.island)
    (loading : s.seq.state = .loading) (pending : s.seq.pendingUnload = true) (fails : ¬ s.unloadCheck = true) :
    s.takeLoadingComplete.seq = { s.seq with state := .sharing, pendingUnload := false }
      ∧ .unloadRefused ∈ s.takeLoadingComplete.alarms.latched := by
  rw [State.takeLoadingComplete_judges loading pending,
    State.judgeUnload_refuses (by rwa [State.sharesPending_check resolved loading])]
  exact ⟨rfl, (State.mem_raise _ _ _).2 (.inr rfl)⟩

/-- The unloaded notice (R64, R67, R93). -/
theorem State.takeUnloaded_stands {s : State} (unloading : s.seq.state = .unloading) :
    s.takeUnloaded.seq = { s.seq with
        state := .opening, openPulse := some (s.now + 200000), unloadTimer := none
        openingTimer := some (s.now + 2000000) }
      ∧ s.takeUnloaded.regulator.rampTarget = none := by
  rw [State.takeUnloaded, if_pos unloading]
  exact ⟨State.setSetState_seq _ _, by rw [State.setSetState_regulator, Regulator.onState_bus rfl]; rfl⟩

/-! ### A worked record and the set -/

/-- The card that a delivered record has reached, its island not yet resolved (R45, R57). -/
def State.shownRecord (s : State) (d : Nat) (r : MeterRecord) : State :=
  { s.withRecord d r with island := s.island.refreshOwn (!s.composer.meterFail) (some r) }

theorem State.workedRecord_resolved (s : State) (d : Nat) (r : MeterRecord) :
    (s.workedRecord d r).resolve.island = (s.workedRecord d r).island := by
  have twice := congrArg State.island (s.shownRecord d r).resolve_resolve
  exact (State.resolve_congr (s := s.takenRecord d r) rfl rfl rfl rfl rfl rfl rfl).trans twice

/-- In ISOCH METER_FAIL is clear, and the own P is the record's (R45, R49, R50). -/
theorem State.workedRecord_ownP {s : State} {d : Nat} {r : MeterRecord}
    (isoch : (s.takenRecord d r).island.mode = .isoch) : (s.workedRecord d r).island.ownP = r.p := by
  have clear : ¬ s.composer.meterFail = true := by
    intro fail
    have cause : (s.shownRecord d r).causeNow = true := (State.droopCause_iff _ _ _).2 (.inr (.inr (.inl fail)))
    have droop := (State.resolve_of_sharing (nextSharing_of_cause cause _ _ _)).1
    exact absurd (isoch.symm.trans droop) (by decide)
  exact congrArg Prod.fst ((s.takenRecord_own d r).trans (if_neg clear))

/-- In ISOCH on a valid bus a record in LOADING or UNLOADING is a worked one (R59). -/
theorem State.regulated_ramping {s : State} {d : Nat} {r : MeterRecord} {st : SetState} (run : s.loader.mode = .run)
    (isoch : (s.takenRecord d r).island.mode = .isoch) (valid : r.busValid = true) (state : s.seq.state = st)
    (ramping : st = .loading ∨ st = .unloading) :
    s.regulated d r = workRecord s.conf (s.takenRecord d r).island st s.regulator r := by
  subst state
  refine State.regulated_worked run ?_ ?_
  · rcases ramping with e | e <;> rw [e] <;> rfl
  · rintro (droop | dead | opening)
    · exact nomatch isoch.symm.trans droop
    · exact nomatch valid.symm.trans dead
    · rcases ramping with e | e <;> exact nomatch e.symm.trans opening

/-- The end of the event shows the set and the regulator as the notice has left them. -/
theorem State.stagedRecord_noticed {s : State} {d : Nat} {r : MeterRecord} {n : Option Notice}
    (notice : (s.regulated d r).2 = n) :
    let t := (s.stagedRecord d r).finish
    let u := (s.workedRecord d r).takeNotice n
    t.seq = u.seq ∧ t.regulator = u.regulator ∧ u.keepsLatches t ∧ t.now = max s.now d := by
  obtain ⟨seq, regulator, now, latches⟩ := s.stagedRecord_stands d r
  rw [State.regulatedRecord_eq, notice] at seq regulator latches
  exact ⟨seq, regulator, latches, now⟩

/-- Without a notice the set stands, and the ramp target is the regulator's. -/
theorem State.stagedRecord_silent {s : State} {d : Nat} {r : MeterRecord} {out : Regulator × Option Notice}
    {target : Option Int} (regulated : s.regulated d r = out) (silent : out.2 = none ∧ out.1.rampTarget = target) :
    let t := (s.stagedRecord d r).finish
    t.seq = s.seq ∧ t.regulator.rampTarget = target := by
  subst regulated
  obtain ⟨seq, regulator, -, -⟩ := State.stagedRecord_noticed silent.1
  exact ⟨seq, (congrArg Regulator.rampTarget regulator).trans silent.2⟩

/-- Settles O32: the ramp's notice, and what the set sequencer makes of it. -/
theorem rampsEndInSharingAndOpening : Obligations.RampsEndInSharingAndOpening := by
  intro s m d delivers run r isl isoch valid own share passes
  let w := s.workedRecord d r
  have resolved : w.resolve.island = w.island := s.workedRecord_resolved d r
  have ownP : w.island.ownP = r.p := State.workedRecord_ownP isoch
  have check : w.unloadCheck = true ↔ passes := w.unloadCheck_iff
  have worked {st : SetState} (state : s.seq.state = st) := State.regulated_ramping run isoch valid state
  have complete {ramp : Int} (loading : s.seq.state = .loading) (set : s.regulator.rampTarget = some ramp)
      (reached : isl.rPool = 0 ∨ share ≤ ramp + s.conf.rampStep) :=
    State.stagedRecord_noticed ((congrArg Prod.snd (worked loading (.inl rfl))).trans
      (workRecord_loading_reached s.conf isl r set reached))
  refine ⟨_, exec_meteringInterval_delivers delivers, fun loading unset => ?_, fun ramp loading set =>
    ⟨fun pool below => ?_, fun reached free => ?_, fun reached pending ok => ?_, fun reached pending no => ?_⟩,
    fun unloading above => ?_, fun unloading low => ?_⟩
  · exact State.stagedRecord_silent (worked loading (.inl rfl)) (workRecord_loading_unset s.conf isl r unset)
  · exact State.stagedRecord_silent (worked loading (.inl rfl)) (workRecord_loading_below s.conf isl r set pool below)
  · obtain ⟨seq, regulator, -, -⟩ := complete loading set reached
    obtain ⟨shares, unset⟩ := State.takeLoadingComplete_shares (s := w) loading free
    exact ⟨seq.trans shares, (congrArg Regulator.rampTarget regulator).trans unset⟩
  · obtain ⟨seq, regulator, -, now⟩ := complete loading set reached
    obtain ⟨unloads, target⟩ := State.takeLoadingComplete_unloads resolved loading pending run (check.2 ok)
    rw [ownP] at target
    exact ⟨by rw [now]; exact seq.trans unloads, (congrArg Regulator.rampTarget regulator).trans target⟩
  · obtain ⟨seq, -, latches, -⟩ := complete loading set reached
    obtain ⟨refuses, latched⟩ := State.takeLoadingComplete_refuses resolved loading pending (mt check.1 no)
    exact ⟨seq.trans refuses, latches _ latched⟩
  · exact State.stagedRecord_silent (worked unloading (.inr rfl)) (workRecord_unloading_above s.conf isl r _ above)
  · obtain ⟨seq, regulator, -, now⟩ := State.stagedRecord_noticed ((congrArg Prod.snd (worked unloading (.inr rfl))).trans
      (workRecord_unloading_done s.conf isl r s.regulator low))
    obtain ⟨opens, unset⟩ := State.takeUnloaded_stands (s := w) unloading
    exact ⟨by rw [now]; exact seq.trans opens, (congrArg Regulator.rampTarget regulator).trans unset⟩

end Sys2Proof.Machine
end

section
/-! The own set's breaker, RUNNING and AVAILABLE inputs, its three timers, and the pulses of the set and of the groups
(R77 to R87, R92 to R94, R114, R116). -/

namespace Sys2Proof.Machine

/-! ### Edges and expiries taken by the own set state -/

/-- Into LOADING the ramp target takes the own load in RUN, and is unset elsewhere (R64). -/
theorem State.onState_loading (s : State) (p : Int) : s.regulator.onState .loading s.inRun p
    = { s.regulator with rampTarget := if s.loader.mode = .run then some p else none } := by
  rw [Regulator.onState_bus rfl]
  by_cases run : s.loader.mode = .run <;> simp [State.inRun, State.mode, run]

/-- Off the bus both biases are 0 and no ramp target is set (R64, R73). -/
theorem Regulator.onState_offBus {st : SetState} (off : st.offBus = true) (reg : Regulator) (run : Bool) (p : Int) :
    reg.onState st run p = { speedBias := 0, voltBias := 0, rampTarget := none } := by
  cases st <;> first | rfl | exact nomatch off

/-- The end of an event that has changed nothing reported at once (R15, log entry 7). -/
theorem State.stands_followed {s b : State} (seq : b.seq = s.seq) (groups : b.groups = s.groups)
    (admission : b.admission = s.admission) : s.Followed b b.finish :=
  (State.Requested.refl b).followed_plain (State.not_urges_of_setState (congrArg _ seq) groups admission) rfl

/-- The end of an event that has taken the set off the bus (R15, R73, R76). -/
theorem State.offBus_followed {s u : State} {st : SetState} (h : st ≠ s.seq.state) (off : st.offBus = true) :
    s.Followed { u with
      seq := { u.seq with state := st }
      regulator := { speedBias := 0, voltBias := 0, rampTarget := none } } (u.setSetState st).finish := by
  have followed := State.setSetState_followed (u := u) h
  rwa [Regulator.onState_offBus off] at followed

/-! ### The BREAKER closing edge (R83, R85) -/

theorem exec_breakerCloseEdge {s : State} (awake : s.Awake) (isOpen : s.pins.breaker = false) :
    exec .breakerCloseEdge s = .next { s with pins := { s.pins with breaker := true } }.breakerCloses.finish := by
  have up : State.awake { s with pins := { s.pins with breaker := true } } = true := State.Awake.awake awake
  exact (if_neg (by simp [isOpen])).trans (congrArg _ (if_pos up))

theorem State.breakerCloses_offline {s : State} (offline : s.seq.state.online = false) :
    s.breakerCloses = s.closeOnBus := by
  unfold State.breakerCloses
  split <;> first | rfl | simp_all [SetState.online]

theorem State.breakerCloses_online {s : State} (online : s.seq.state.online = true) : s.breakerCloses = s := by
  unfold State.breakerCloses
  split <;> first | rfl | simp_all [SetState.online]

/-- Settles O34: off the bus the edge enters LOADING, and an online set takes nothing from it. -/
theorem breakerClosingLoadsTheSet : Obligations.BreakerClosingLoadsTheSet := by
  intro s awake isOpen b
  refine ⟨b.breakerCloses.finish, exec_breakerCloseEdge awake isOpen, fun offline => ?_, fun online => ?_⟩
  · have other : SetState.loading ≠ s.seq.state := fun e => nomatch (congrArg SetState.online e).trans offline
    rw [State.breakerCloses_offline (s := b) offline]
    have followed := State.setSetState_followed (s := s)
      (u := { b with seq := { s.seq with startTimer := none, closePermit := false } }) other
    rwa [State.onState_loading] at followed
  · rw [State.breakerCloses_online (s := b) online]
    exact State.stands_followed rfl rfl rfl

/-! ### RUNNING and AVAILABLE (R80, R82) -/

theorem exec_runningEdge {s : State} {high : Bool} (awake : s.Awake) (edge : s.pins.running ≠ high) :
    exec (.runningEdge high) s = .next { s with
      pins := { s.pins with running := high }
      seq := (if s.seq.state = .starting then { s.seq with closePermit := high } else s.seq) } := by
  have up : State.awake { s with pins := { s.pins with running := high } } = true := State.Awake.awake awake
  refine (if_neg edge).trans (congrArg _ ?_)
  by_cases starting : s.seq.state = .starting <;> simp [up, starting]

theorem exec_availableEdge {s : State} {high : Bool} (awake : s.Awake) (edge : s.pins.available ≠ high) :
    let b : State := { s with pins := { s.pins with available := high } }
    exec (.availableEdge high) s = .next (if high then b.availableRises else b.availableFalls).finish :=
  (if_neg edge).trans (congrArg _ (if_pos (State.Awake.awake awake)))

theorem State.availableRises_ready {s : State} (state : s.seq.state ∈ [SetState.off, .tripped]) :
    s.availableRises = s.setSetState .standby := by
  unfold State.availableRises
  split <;> simp_all

theorem State.availableRises_ignored {s : State} (other : s.seq.state ∉ [SetState.off, .tripped]) :
    s.availableRises = s := by
  unfold State.availableRises
  split <;> simp_all

theorem State.availableFalls_stopped {s : State} (state : s.seq.state ∈ [SetState.standby, .tripped, .startFailed]) :
    s.availableFalls = s.setSetState .off := by
  unfold State.availableFalls
  split <;> simp_all

theorem State.availableFalls_starting {s : State} (state : s.seq.state = .starting) :
    s.availableFalls = s.leaveStarting .off := by
  rw [State.availableFalls, state]

theorem State.availableFalls_ignored {s : State}
    (other : s.seq.state ∉ [SetState.standby, .tripped, .startFailed, .starting]) : s.availableFalls = s := by
  unfold State.availableFalls
  split <;> simp_all

/-- Settles O36: RUNNING moves CLOSE PERMIT alone, and AVAILABLE is taken by the own set state. -/
theorem engineInputsMoveTheSet : Obligations.EngineInputsMoveTheSet := by
  refine fun s high awake => ⟨exec_runningEdge awake, fun edge => ?_⟩
  intro b off
  refine ⟨_, exec_availableEdge awake edge, ?_⟩
  cases high with
  | true =>
    refine ⟨fun _ ready => ?_, nofun, nofun, fun _ other => ?_, nofun⟩
    · rw [if_pos rfl, State.availableRises_ready (s := b) ready]
      exact State.offBus_followed (fun e => by simp [← e] at ready) rfl
    · rw [if_pos rfl, State.availableRises_ignored (s := b) other]
      exact State.stands_followed rfl rfl rfl
  | false =>
    refine ⟨nofun, fun _ stopped => ?_, fun _ starting => ?_, nofun, fun _ other => ?_⟩
    · rw [if_neg nofun, State.availableFalls_stopped (s := b) stopped]
      exact State.offBus_followed (fun e => by simp [← e] at stopped) rfl
    · rw [if_neg nofun, State.availableFalls_starting (s := b) starting]
      exact State.offBus_followed (u := { b with seq := { s.seq with startTimer := none, closePermit := false } })
        (by simp [starting]) rfl
    · rw [if_neg nofun, State.availableFalls_ignored (s := b) other]
      exact State.stands_followed rfl rfl rfl

/-! ### The start, unload and opening timers (R84, R92, R94) -/

/-- The end of an event that has changed the own set state and reported an alarm event (R15, R76, R177). -/
theorem State.setSetState_raise_followed {s u : State} {st : SetState} (h : st ≠ s.seq.state) (k : AlarmKind) :
    k ∈ ((u.setSetState st).raise k).finish.alarms.latched
      ∧ s.Followed { u with
          seq := { u.seq with state := st }
          regulator := u.regulator.onState st u.inRun (perUnit u.island.ownP u.conf.rating) }
        ((u.setSetState st).raise k).finish :=
  ⟨State.finish_latches _ _ ((State.mem_raise _ _ _).2 (.inr rfl)),
    ((u.setSetState_requested st).trans (State.raise_requested _ k)).followed_urgent (.inl h) (u.setSetState_waiting st)⟩

/-- A return to SHARING that reports why (R92, R94). -/
theorem State.returnToSharing_raise_followed {s u : State} (h : .sharing ≠ s.seq.state) (k : AlarmKind) :
    k ∈ (u.returnToSharing.raise k).finish.alarms.latched
      ∧ s.Followed { u with
          seq := { u.seq with state := .sharing, unloadTimer := none, openingTimer := none, unloadKind := .none }
          regulator := { u.regulator with rampTarget := none } } (u.returnToSharing.raise k).finish :=
  State.setSetState_raise_followed h k

theorem exec_startTimerExpiry {s : State} {d : Nat} (awake : s.Awake) (state : s.seq.state = .starting)
    (runs : s.seq.startTimer = some d) :
    exec .startTimerExpiry s = .next (((s.advanceTo d).leaveStarting .startFailed).raise .startFail).finish :=
  onExpiry_of awake ((if_pos state).trans runs) fun u => ((u.leaveStarting .startFailed).raise .startFail).finish

theorem exec_unloadTimerExpiry {s : State} {d : Nat} (awake : s.Awake) (state : s.seq.state = .unloading)
    (runs : s.seq.unloadTimer = some d) :
    exec .unloadTimerExpiry s = .next ((s.advanceTo d).returnToSharing.raise .unloadFail).finish :=
  onExpiry_of awake ((if_pos state).trans runs) fun u => (u.returnToSharing.raise .unloadFail).finish

theorem exec_openingTimerExpiry {s : State} {d : Nat} (awake : s.Awake) (state : s.seq.state = .opening)
    (runs : s.seq.openingTimer = some d) :
    exec .openingTimerExpiry s = .next ((s.advanceTo d).returnToSharing.raise .openFail).finish :=
  onExpiry_of awake ((if_pos state).trans runs) fun u => (u.returnToSharing.raise .openFail).finish

/-- Settles O38: each timer runs in its own set state, and its expiry leaves that state and reports why. -/
theorem setTimersExpire : Obligations.SetTimersExpire := by
  refine fun s d awake => ⟨fun state runs => ?_, fun state runs => ?_, fun state runs => ?_⟩
  · exact ⟨_, exec_startTimerExpiry awake state runs, State.setSetState_raise_followed (by simp [state]) _⟩
  · exact ⟨_, exec_unloadTimerExpiry awake state runs, State.returnToSharing_raise_followed (by simp [state]) _⟩
  · exact ⟨_, exec_openingTimerExpiry awake state runs, State.returnToSharing_raise_followed (by simp [state]) _⟩

/-! ### Pulses (R77, R114, R116) -/

theorem exec_setPulseEnd {s : State} {which : SetPulse} {d : Nat} (awake : s.Awake) (runs : s.seq.pulse which = some d) :
    exec (.setPulseEnd which) s = .next ((s.advanceTo d).endSetPulse which) :=
  onExpiry_of awake runs fun u => u.endSetPulse which

theorem exec_groupPulseEnd {s : State} {i : Fin 6} {which : GroupPulse} {d : Nat} (awake : s.Awake)
    (runs : (s.channel i).pulse which = some d) :
    exec (.groupPulseEnd i which) s = .next ((s.advanceTo d).endGroupPulse i which) :=
  onExpiry_of awake runs fun u => u.endGroupPulse i which

/-- A pulse's end at the set (R77). -/
theorem State.endSetPulse_eq (s : State) (which : SetPulse) : s.endSetPulse which = { s with
    seq := { s.seq with
      startPulse := (if which = .start then none else s.seq.startPulse)
      stopPulse := (if which = .stop then none
        else if which = .start ∧ s.seq.stopHeld = true then some (s.now + 1000000) else s.seq.stopPulse)
      openPulse := (if which = .opening then none else s.seq.openPulse)
      stopHeld := s.seq.stopHeld && which != .start } } := by
  cases which with
  | start => cases held : s.seq.stopHeld <;> simp [State.endSetPulse, held, State.after, enginePulse, ms]
  | stop => simp [State.endSetPulse]
  | opening => simp [State.endSetPulse]

/-- Without a TRIP held back the end of a CLOSE pulse releases it alone (R116). -/
theorem State.endGroupPulse_close {s : State} {i : Fin 6} (free : (s.channel i).tripHeld = false) :
    s.endGroupPulse i .close = s.setChannel i { s.channel i with close := none } := by
  simp [State.endGroupPulse, free]

/-- A TRIP held back begins when its group's CLOSE ends (R114, R116). -/
theorem State.endGroupPulse_held {s : State} {i : Fin 6} (held : (s.channel i).tripHeld = true) :
    s.endGroupPulse i .close = (s.setChannel i { s.channel i with close := none }).startTrip i := by
  simp [State.endGroupPulse, held]

/-- The begin of a TRIP pulse, the close spacing timer afresh with it (R114, R116). -/
theorem State.startTrip_stands (s : State) (i : Fin 6) :
    (s.startTrip i).channel i = { s.channel i with trip := some (s.now + 200000), tripHeld := false }
      ∧ (s.startTrip i).groups.closeSpacing = some (s.now + 10000000)
      ∧ ∀ j, j ≠ i → (s.startTrip i).channel j = s.channel j :=
  ⟨s.channel_setChannel i _, rfl, fun _ other => s.channel_setChannel_ne _ other.symm⟩

/-- Settles O39: what a pulse's end makes of the set's and of the groups' outputs, at the pulse's own instant. -/
theorem pulsesEnd : Obligations.PulsesEnd := by
  intro s d awake
  refine ⟨fun which runs => ?_, fun i runs => ?_, fun i runs free => ?_, fun i runs held => ?_⟩
  · rw [exec_setPulseEnd awake runs, State.endSetPulse_eq]
    rfl
  · exact exec_groupPulseEnd (which := .trip) awake runs
  · rw [exec_groupPulseEnd (which := .close) awake runs, State.endGroupPulse_close (s := s.advanceTo d) free]
    rfl
  · let released := (s.advanceTo d).setChannel i { s.channel i with close := none }
    obtain ⟨trips, spaces, others⟩ := released.startTrip_stands i
    have rest (j : Fin 6) (other : j ≠ i) : released.channel j = s.channel j :=
      State.channel_setChannel_ne (s.advanceTo d) _ other.symm
    have own : released.channel i = { s.channel i with close := none } := (s.advanceTo d).channel_setChannel i _
    rw [own] at trips
    refine ⟨released.startTrip i, ?_, ?_, trips, spaces, fun j other => (others j other).trans (rest j other)⟩
    · rw [exec_groupPulseEnd (which := .close) awake runs, State.endGroupPulse_held (s := s.advanceTo d) held]
      rfl
    · exact ((s.advanceTo d).setChannel_frame i _).trans (released.startTrip_frame i)

end Sys2Proof.Machine
end

section
/-! The own set's BREAKER opening edge (R87, R89, R94): the own trip, reported before the card takes its own notice of it,
and the end of an opening. -/

namespace Sys2Proof.Machine

/-! ### A frame composed within an event (R16, log entry 7) -/

/-- With the spacing timer running, or nothing waiting, nothing is composed (R16). -/
theorem State.flush_of_done {s : State} (done : s.composer.waiting = none ∨ s.composer.spacing ≠ none) : s.flush = s := by
  unfold State.flush
  split
  · next waits stopped => simp [waits, stopped] at done
  · rfl

/-- Where something waits, the spacing timer runs once it has been dealt with (R16). -/
theorem State.flush_spaced {s : State} (waits : s.composer.waiting ≠ none) : s.flush.composer.spacing ≠ none := by
  by_cases stopped : s.composer.spacing = none
  · obtain ⟨k, asked⟩ := Option.ne_none_iff_exists'.1 waits
    have composes : s.flush = s.compose k := by simp only [State.flush, asked, stopped]
    rw [composes]
    exact nofun
  · rwa [State.flush_of_done (.inr stopped)]

/-- What has been dealt with within an event is not dealt with again at its end (R16). -/
theorem State.finish_flushed {s : State} (resolved : s.resolve = s) : s.flush.resolve.finish = s.finish := by
  have done : s.flush.resolve.flush = s.flush.resolve := by
    by_cases waits : s.composer.waiting = none
    · have still : s.flush = s := State.flush_of_done (.inl waits)
      exact State.flush_of_done (.inl ((congrArg (fun t : State => t.composer.waiting) still).trans waits))
    · exact State.flush_of_done (.inr (State.flush_spaced waits))
  rw [State.finish, State.resolve_resolve, done, State.finish, resolved, State.settle, State.resolve_resolve, State.settle]

/-- Of the sharing mode a later state shows the same, where METER_FAIL, the mode and the return timer stand (R50). -/
theorem State.Shared.later {b t u : State} (h : b.Shared t) (meterFail : u.composer.meterFail = t.composer.meterFail)
    (mode : u.island.mode = t.island.mode) (timer : u.island.returnTimer = t.island.returnTimer) : b.Shared u := by
  unfold State.Shared at h ⊢
  rwa [meterFail, mode, timer]

/-! ### The own trip notice (R87, R98, R138) -/

/-- The own notice goes to the ladder and to the duty logic, and aborts nothing (R91, R98, R138). -/
theorem State.takeTripNotice_own {s : State} {n : TripNotice} (own : n.station = s.own) :
    s.takeTripNotice n = s.noticed n := by
  have island : s.noticeForIsland n = true := by simp [State.noticeForIsland, own]
  have kept : (s.noticed n).own = s.own := State.own_of_loader (s.noticed_frame n .loader (by decide))
  rw [State.takeTripNotice, if_pos island]
  exact if_pos (own.trans kept.symm)

/-- The duty logic once it has taken a trip notice (R98). -/
def State.dutyTripped (s : State) : Duty := { s.duty with tripRecent := some (s.now + 5000000) }

theorem State.noticed_duty {s : State} (run : s.mode = .run) (n : TripNotice) : (s.noticed n).duty = s.dutyTripped := by
  have duty : (s.blockShed n).duty = s.duty := s.blockShed_frame n .duty (by decide)
  have now : (s.blockShed n).now = s.now := s.blockShed_frame n .clock (by decide)
  rw [State.noticed_of_run run, State.dutyTripped, ← duty, ← now]
  rfl

/-- The own trip's block shed and the end of the event (R98, R138). -/
theorem State.noticed_followed {s : State} {n : TripNotice} (own : n.station = s.own) (run : s.mode = .run) :
    let t := (s.noticed n).finish
    s.Followed { s with duty := s.dutyTripped, groups := t.groups, ladder := t.ladder } t ∧ t.seq = s.seq := by
  intro t
  have followed := (s.takeTripNotice_moves n).followed (s := s) rfl rfl rfl
  have seq : t.seq = s.seq := (State.finish_seq _).trans (s.noticed_frame n .seq (by decide))
  have regulator : t.regulator = s.regulator := (State.finish_regulator _).trans (s.noticed_frame n .regulator (by decide))
  have duty : t.duty = s.dutyTripped := (State.finish_duty _).trans (State.noticed_duty run n)
  rw [State.takeTripNotice_own own, seq, regulator, duty] at followed
  exact ⟨followed, seq⟩

/-- A notice taken behind a running spacing timer composes nothing: a group that it moves leaves an urgent request
waiting, and without one what waited waits on (R15, R16). -/
theorem State.noticed_waits {s : State} {n : TripNotice} (own : n.station = s.own) (run : s.mode = .run)
    (spaced : s.composer.spacing ≠ none) :
    let t := (s.noticed n).finish
    let shed := ∃ i, (t.channel i).state ≠ (s.channel i).state
    (t.laneA = s.laneA ∧ t.laneB = s.laneB)
      ∧ (shed → t.composer = { s.composer with waiting := some .urgent }) ∧ (¬ shed → t.composer = s.composer) := by
  intro t shed
  obtain ⟨⟨settles, urgent, plain⟩, (seq : t.seq = s.seq)⟩ := State.noticed_followed own run
  have admission : t.admission = s.admission := settles.1 .admission (by decide)
  have urges : s.Urges t ↔ shed := by simp [State.Urges, State.claim, seq, admission, shed]
  by_cases moved : shed
  · obtain ⟨laneA, laneB, composer⟩ := (urgent run (urges.2 moved)).held (.inl spaced)
    exact ⟨⟨laneA, laneB⟩, fun _ => composer, fun still => absurd moved still⟩
  · obtain ⟨laneA, laneB, composer⟩ := (plain (.inr (mt urges.1 moved))).held (.inl spaced)
    exact ⟨⟨laneA, laneB⟩, fun k => absurd k moved, fun _ => composer⟩

/-! ### A report made before the notice (R87, log entry 7) -/

section
variable {b u : State}

/-- What a frame made before the end of the event leaves of the card that has asked for it (R16, R48). -/
theorem State.Requested.flushed_frame (asked : b.Requested u) : b.keepsBut u.flush.resolve followers :=
  (asked.1.mono (by decide)).trans ((u.flush_frame.mono (by decide)).trans (u.flush.resolve_frame.mono (by decide)))

/-- An event that ends where its frame has been made shows the card as that frame has left it (R16, R50). -/
theorem State.finish_shows_flushed (resolved : u.resolve = u) (waits : u.composer.waiting ≠ none) :
    let w := u.flush.resolve
    (u.finish.laneA = w.laneA ∧ u.finish.laneB = w.laneB ∧ u.finish.composer = w.composer)
      ∧ u.finish.island.mode = w.resolve.island.mode ∧ u.finish.island.returnTimer = w.resolve.island.returnTimer := by
  intro w
  rw [← State.finish_flushed resolved]
  obtain ⟨laneA, laneB, composer⟩ := w.finish_held (State.flush_spaced waits)
  obtain ⟨-, -, -, -, -, -, same, -⟩ := w.finish_settles
  exact ⟨⟨laneA, laneB, composer⟩, same (congrArg Composer.meterFail composer)⟩

variable {n : TripNotice} (own : n.station = u.own) (run : u.mode = .run)
include own run

/-- A frame made within an event leaves the own identity and the card mode. -/
theorem State.flushed_own : n.station = u.flush.resolve.own ∧ u.flush.resolve.mode = .run := by
  have loader : u.flush.resolve.loader = u.loader := u.flush_frame .loader (by decide)
  exact ⟨own.trans (State.own_of_loader loader).symm, (congrArg Loader.mode loader).trans run⟩

variable (asked : b.Requested u) (resolved : u.resolve = u) (urgent : u.composer.waiting = some .urgent)
include asked resolved urgent

/-- Behind the report the own notice leaves the lanes, and of the composer what waits alone: an urgent request where a
group has been shed (R15, R16). -/
theorem State.Requested.noticed_waits :
    let t := (u.flush.resolve.noticed n).finish
    let shed := ∃ i, (t.channel i).state ≠ (b.channel i).state
    (t.laneA = u.finish.laneA ∧ t.laneB = u.finish.laneB)
      ∧ (shed → t.composer = { u.finish.composer with waiting := some .urgent })
      ∧ (¬ shed → t.composer = u.finish.composer) := by
  intro t shed
  have waits : u.composer.waiting ≠ none := by simp [urgent]
  obtain ⟨ownFlushed, runFlushed⟩ := State.flushed_own own run
  obtain ⟨⟨laneA, laneB, composer⟩, -⟩ := State.finish_shows_flushed resolved waits
  have behind := State.noticed_waits ownFlushed runFlushed (State.flush_spaced waits)
  have channels (i : Fin 6) : u.flush.resolve.channel i = b.channel i := by
    have groups : u.flush.resolve.groups = b.groups := asked.flushed_frame .groups (by decide)
    rw [State.channel, State.channel, groups]
  simp only [channels] at behind
  rw [laneA, laneB, composer]
  exact behind

/-- The card is settled behind the report and the own notice (R48, R50, R98, R127, R177). -/
theorem State.Requested.noticed_settles :
    let t := (u.flush.resolve.noticed n).finish
    State.Settles { b with duty := b.dutyTripped, groups := t.groups, ladder := t.ladder } t := by
  intro t
  let w := u.flush.resolve
  have kept : b.keepsBut w followers := asked.flushed_frame
  obtain ⟨ownFlushed, runFlushed⟩ := State.flushed_own own run
  obtain ⟨⟨-, -, composer⟩, mode, timer⟩ := State.finish_shows_flushed resolved (by simp [urgent])
  have meterFail : t.composer.meterFail = u.finish.composer.meterFail := by
    obtain ⟨-, moves, stands⟩ := State.Requested.noticed_waits own run asked resolved urgent
    by_cases moved : ∃ i, (t.channel i).state ≠ (b.channel i).state
    · rw [moves moved]
    · rw [stands moved]
  obtain ⟨⟨⟨frame, latches, settled, -, tieView, tieFilters, same, -⟩, -⟩, -⟩ :=
    State.noticed_followed ownFlushed runFlushed
  obtain ⟨sameMode, sameTimer⟩ := same (meterFail.trans (congrArg Composer.meterFail composer))
  obtain ⟨-, -, -, -, -, -, reported⟩ := asked.settles
  obtain ⟨-, asks, -, -, view, filters, -⟩ := asked
  obtain ⟨flushView, flushFilters⟩ := u.flush_tie
  have shared : b.Shared t := reported.later meterFail (sameMode.trans mode.symm) (sameTimer.trans timer.symm)
  have duty : w.dutyTripped = b.dutyTripped := by
    rw [State.dutyTripped, State.dutyTripped, show w.duty = b.duty from kept .duty (by decide),
      show w.now = b.now from kept .clock (by decide)]
  refine ⟨fun k hk => ?_, ?_, settled, rfl, ?_, ?_, shared⟩
  · have first := kept k hk
    have second := frame k hk
    cases k <;> first | (exact absurd (by decide) hk) | exact Eq.trans second duty | exact Eq.trans second first | rfl
  · exact (asks.trans (.of_eq (u.flush_frame .alarms (by decide)))).trans latches
  · exact tieView.trans (flushView.trans view)
  · exact tieFilters.trans (flushFilters.trans filters)

end

/-! ### The own trip (R73, R87) -/

/-- The card with its set TRIPPED, the change made known to the other blocks (R76, R87). -/
def State.enterTripped (s : State) : State :=
  State.setSetState { s with seq := { s.seq with unloadTimer := none, pendingUnload := false, unloadKind := .none } }
    .tripped

/-- The notice of the own trip: it carries the own P from before the change (R87). -/
def State.ownTripNotice (s : State) : TripNotice :=
  { station := s.own, p := s.island.ownP, rating := s.conf.rating, tripSection := s.conf.ownSection }

theorem State.enterTripped_loader (s : State) : s.enterTripped.loader = s.loader := State.setSetState_loader _ _

theorem State.enterTripped_resolved (s : State) : s.enterTripped.resolve = s.enterTripped := State.resolve_resolve _

theorem State.enterTripped_own (s : State) : s.ownTripNotice.station = s.enterTripped.own :=
  (State.own_of_loader s.enterTripped_loader).symm

/-- The trip goes out before the card takes its own notice of it (R87, log entry 7). -/
theorem State.trip_eq (s : State) : s.trip = s.enterTripped.flush.resolve.noticed s.ownTripNotice := by
  have loader : s.enterTripped.flush.resolve.loader = s.enterTripped.loader :=
    s.enterTripped.flush_frame .loader (by decide)
  exact State.takeTripNotice_own (s.enterTripped_own.trans (State.own_of_loader loader).symm)

/-- The card as a trip leaves it, nothing else brought up to date (R73, R87). -/
def State.tripped (s : State) : State := { s with
  seq := { s.seq with state := .tripped, unloadTimer := none, pendingUnload := false, unloadKind := .none }
  regulator := { speedBias := 0, voltBias := 0, rampTarget := none } }

theorem State.tripped_requested (s : State) : s.tripped.Requested s.enterTripped :=
  State.setSetState_requested { s with
    seq := { s.seq with unloadTimer := none, pendingUnload := false, unloadKind := .none } } .tripped

/-! ### The BREAKER opening edge -/

theorem exec_breakerOpenEdge {s : State} (awake : s.Awake) (closed : s.pins.breaker = true) :
    exec .breakerOpenEdge s = .next { s with pins := { s.pins with breaker := false } }.breakerOpens.finish :=
  (if_pos closed).trans (congrArg _ (if_pos (State.Awake.awake awake)))

theorem State.breakerOpens_loaded {s : State} (state : s.seq.state ∈ [SetState.loading, .sharing, .unloading]) :
    s.breakerOpens = s.trip := by
  unfold State.breakerOpens
  split <;> simp_all

theorem State.breakerOpens_opening {s : State} (state : s.seq.state = .opening) : s.breakerOpens = s.completeOpening := by
  rw [State.breakerOpens, state]

theorem State.breakerOpens_offline {s : State} (offline : s.seq.state.online = false) : s.breakerOpens = s := by
  unfold State.breakerOpens
  split <;> simp_all [SetState.online]

/-- STOP is issued, or held back while START runs (R77). -/
theorem State.issueStop_eq (s : State) : s.issueStop = { s with seq := { s.seq with
    stopHeld := s.seq.stopHeld || s.seq.startPulse.isSome
    stopPulse := (if s.seq.startPulse.isSome then s.seq.stopPulse else some (s.now + 1000000)) } } := by
  unfold State.issueStop
  split
  · next starts => simp [starts]
  · next stopped => simp [stopped, State.after, enginePulse, ms]

/-- The end of an opening (R73, R77, R94). -/
theorem State.completeOpening_followed {s b : State} (state : s.seq.state = .opening) :
    s.Followed { b with
      seq := { b.seq with
        state := (if b.pins.available then .standby else .off), openingTimer := none, unloadKind := .none
        stopHeld := b.seq.stopHeld || b.seq.startPulse.isSome
        stopPulse := (if b.seq.startPulse.isSome then b.seq.stopPulse else some (b.now + 1000000)) }
      regulator := { speedBias := 0, voltBias := 0, rampTarget := none } } b.completeOpening.finish := by
  have ends (ready : Bool) : let st := if ready then SetState.standby else .off
      st ≠ .opening ∧ st.offBus = true := by cases ready <;> decide
  obtain ⟨leaves, offBus⟩ := ends b.pins.available
  rw [State.completeOpening, State.issueStop_eq]
  exact State.offBus_followed (by rwa [state]) offBus

/-- A trip in RUN: its report, and behind it the card's own notice (R15, R16, R87, R98, R138, log entry 7). -/
theorem State.trip_run {b : State} (run : b.loader.mode = .run) :
    let t := b.trip.finish
    let shed := ∃ i, (t.channel i).state ≠ (b.channel i).state
    State.Settles { b.tripped with duty := b.dutyTripped, groups := t.groups, ladder := t.ladder } t
      ∧ (b.composer.spacing = none → b.tripped.Composed t .urgent
        ∧ (shed → t.composer.waiting = some .urgent) ∧ (¬ shed → t.composer.waiting = none))
      ∧ (b.composer.spacing ≠ none → t.laneA = b.laneA ∧ t.laneB = b.laneB
        ∧ t.composer = { b.composer with waiting := some .urgent }) := by
  have asked := b.tripped_requested
  have urgent : b.enterTripped.composer.waiting = some .urgent := (State.setSetState_waiting _ _).trans (if_pos run)
  have mode : b.enterTripped.mode = .run := (congrArg Loader.mode b.enterTripped_loader).trans run
  have settles := State.Requested.noticed_settles b.enterTripped_own mode asked b.enterTripped_resolved urgent
  obtain ⟨⟨laneA, laneB⟩, moves, stands⟩ :=
    State.Requested.noticed_waits b.enterTripped_own mode asked b.enterTripped_resolved urgent
  have dealt := asked.dealtWith
  rw [urgent] at dealt
  rw [State.trip_eq]
  intro t shed
  refine ⟨settles, fun stopped => ?_, fun runs => ?_⟩
  · obtain ⟨composed, nothing⟩ := dealt.composed stopped
    refine ⟨composed.later (fun l => ?_) ?_, fun moved => by rw [moves moved], fun still => by rw [stands still, nothing]⟩
    · cases l
      · exact laneA
      · exact laneB
    · by_cases moved : shed
      · rw [moves moved]
      · rw [stands moved]
  · obtain ⟨sameA, sameB, held⟩ := dealt.held (.inl runs)
    refine ⟨laneA.trans sameA, laneB.trans sameB, ?_⟩
    by_cases moved : shed
    · exact (moves moved).trans (by rw [held]; rfl)
    · exact (stands moved).trans held

/-- A trip outside RUN: neither the ladder nor the duty logic acts on it (R87, R98, R137). -/
theorem State.trip_quiet {b : State} (quiet : b.loader.mode ≠ .run) : b.trip.finish = b.enterTripped.finish := by
  have mode : b.enterTripped.flush.resolve.mode ≠ .run := by
    rwa [State.mode, show b.enterTripped.flush.resolve.loader = _ from b.enterTripped.flush_frame .loader (by decide),
      b.enterTripped_loader]
  rw [State.trip_eq, State.noticed_of_not_run mode, State.finish_flushed b.enterTripped_resolved]

/-- Settles O35: a trip is followed through its report and the card's own notice of it, an opening through its end. -/
theorem breakerOpeningTripsOrCompletes : Obligations.BreakerOpeningTripsOrCompletes := by
  intro s awake closed b off tripped
  refine ⟨b.breakerOpens.finish, exec_breakerOpenEdge awake closed, fun loaded run => ?_, fun loaded quiet => ?_,
    fun opening => ?_, fun offline => ?_⟩
  · rw [State.breakerOpens_loaded (s := b) loaded]
    exact State.trip_run run
  · rw [State.breakerOpens_loaded (s := b) loaded, State.trip_quiet (b := b) quiet]
    have other : SetState.tripped ≠ s.seq.state := fun e => by simp [← e] at loaded
    exact State.offBus_followed (u := { b with
      seq := { s.seq with unloadTimer := none, pendingUnload := false, unloadKind := .none } }) other rfl
  · rw [State.breakerOpens_opening (s := b) opening]
    exact State.completeOpening_followed opening
  · rw [State.breakerOpens_offline (s := b) offline]
    exact State.stands_followed rfl rfl rfl

end Sys2Proof.Machine
end

section
/-! The evaluation of the duty logic (R91, R95 to R104, R107): the needs it forms, the one decision that it can come to,
and what that decision makes of the set. -/

namespace Sys2Proof.Machine

/-! ### The needs and the start check (R99 to R104) -/

/-- The start-need counter stands at its limit once high load has been found 200 times in a row (R99). -/
theorem State.needAfter_full (s : State) : s.needAfter = 200 ↔ s.island.highLoad = true ∧ 199 ≤ s.duty.startNeed := by
  unfold State.needAfter
  by_cases high : s.island.highLoad = true
  · simp only [high, if_true, true_and]
    omega
  · simp [high]

/-- N2 asks whether an island claim is WAITING (R100). -/
theorem State.claimIn_waiting (s : State) :
    s.claimIn [.waiting] = true ↔ ∃ c ∈ s.islandClaims, c.state = .waiting := by simp [State.claimIn]

/-- Some member stands in a set state (R104). -/
theorem State.memberIn_one (s : State) (st : SetState) :
    s.memberIn [st] = true ↔ ∃ i ∈ s.island.members, s.memberState i = some st := by
  simp only [State.memberIn, List.any_eq_true]
  refine exists_congr fun i => and_congr_right fun _ => ?_
  cases s.memberState i <;> simp

/-- The four start needs in the statements' words (R99 to R102). -/
theorem State.anyNeed_iff (s : State) : s.formNeeds.anyNeed = true
    ↔ (s.island.highLoad = true ∧ 199 ≤ s.duty.startNeed) ∨ (∃ c ∈ s.islandClaims, c.state = .waiting)
      ∨ s.island.online < 2 ∨ (s.island.highLoad = true ∧ s.duty.tripRecent ≠ none) := by
  rw [← s.needAfter_full, ← s.claimIn_waiting]
  simp [Duty.anyNeed, State.formNeeds, or_assoc, Option.isSome_iff_ne_none, and_comm]

/-- The start check in the statements' words (R103, R104). -/
theorem State.startCheck_iff (s : State) : s.startCheck s.formNeeds = true
    ↔ s.formNeeds.anyNeed = true ∧ (∀ i ∈ s.island.members, s.memberState i ≠ some .starting)
      ∧ s.own ∈ s.island.members ∧ s.seq.state = .standby
      ∧ ∀ i ∈ s.island.members, s.memberState i = some .standby → s.Precedes s.own i := by
  have none : (!s.memberIn [.starting]) = true ↔ ∀ i ∈ s.island.members, s.memberState i ≠ some .starting := by
    rw [Bool.not_eq_true', ← Bool.not_eq_true, s.memberIn_one]
    push Not
    rfl
  have head : s.formNeeds.startOrder.head? = some s.own ↔ _ := s.inOrder_head .standby s.own
  simp only [State.memberState_own, Option.some.injEq, and_imp] at head
  simp only [State.startCheck, Bool.and_eq_true, beq_iff_eq, none, head]
  tauto

/-! ### What an evaluation decides (R97) -/

/-- With a need an evaluation starts the set or aborts an unload, and does not stop it (R91, R104, R106). -/
theorem State.evaluate_needed {s : State} (need : s.formNeeds.anyNeed = true) :
    let u : State := { s with duty := { s.formNeeds with stopCounter := 0 } }
    s.evaluate = if s.startCheck s.formNeeds then u.takeStart else u.abortUnload := by
  intro u
  have stop : s.stopAfter s.formNeeds = 0 := by simp [State.stopAfter, State.quiet, need]
  have evaluates : s.evaluate
      = if s.startCheck s.formNeeds then u.abortUnload.takeStart else u.abortUnload := by
    simp [State.evaluate, stop, need, u]
  rw [evaluates]
  by_cases starts : s.startCheck s.formNeeds = true
  · obtain ⟨-, -, -, standby, -⟩ := s.startCheck_iff.1 starts
    have other : u.seq.state ≠ .unloading := fun e => nomatch standby.symm.trans e
    rw [if_pos starts, if_pos starts, State.abortUnload_of_ne other]
  · rw [if_neg starts, if_neg starts]

/-- Without a need an evaluation stops the set or leaves it (R106 to R108). -/
theorem State.evaluate_unneeded {s : State} (idle : ¬ s.formNeeds.anyNeed = true) :
    let stop := s.stopAfter s.formNeeds
    let stopNow := decide (stop = 3000) && s.stopCheck
    let u : State := { s with duty := { s.formNeeds with stopCounter := if stopNow then 0 else stop } }
    s.evaluate = if stopNow then u.takeStop else u := by
  have stays : ¬ s.startCheck s.formNeeds = true := fun starts => idle (s.startCheck_iff.1 starts).1
  simp only [State.evaluate, idle, stays, if_false, Bool.false_eq_true]

/-! ### What the decisions move -/

/-- The start of the set from STANDBY (R77, R81, R82). -/
theorem State.takeStart_stands {s : State} (standby : s.seq.state = .standby) (stop : s.seq.stopPulse = none)
    (held : s.seq.stopHeld = false) :
    s.takeStart.seq = { s.seq with
      state := .starting, startPulse := some (s.now + 1000000), startTimer := some (s.now + 90000000)
      closePermit := s.pins.running } := by
  rw [State.takeStart, if_pos ⟨standby, stop, by simp [held]⟩]
  simp [State.issueStart, State.after, enginePulse, startTime, ms]

/-- No set is started while its STOP pulse runs or is held back (R77, R81). -/
theorem State.takeStart_held {s : State} (stop : s.seq.stopPulse ≠ none ∨ s.seq.stopHeld = true) : s.takeStart = s := by
  refine if_neg fun ⟨_, free, unheld⟩ => ?_
  exact stop.elim (fun runs => runs free) unheld

theorem State.takeStop_of_ne {s : State} (other : s.seq.state ≠ .sharing) : s.takeStop = s := if_neg other

theorem State.takeStart_moved (s : State) : s.MovedSet s.takeStart := by
  unfold State.takeStart
  split
  · next may =>
    obtain ⟨standby, -, -⟩ := may
    have enters : s.MovedSet (s.issueStart.setSetState .starting) := State.MovedSet.enter s _ (by simp [standby])
    exact enters.again ⟨State.Moved.set _ _ _, rfl, ⟨rfl, rfl⟩, .inl ⟨rfl, rfl⟩⟩ (by simp [standby]) (by simp [standby])
  · exact .refl s

theorem State.takeStop_moved (s : State) : s.MovedSet s.takeStop := by
  unfold State.takeStop
  split
  · next sharing => exact State.MovedSet.enter s _ (by simp [sharing])
  · exact .refl s

/-- Past the duty logic's own fields an evaluation moves the set alone, once at most; the ladder stands. -/
theorem State.evaluate_moved (s : State) :
    State.MovedSet { s with duty := s.evaluate.duty } s.evaluate ∧ s.evaluate.ladder = s.ladder := by
  have decided {d : Duty} {u : State} (set : State.MovedSet { s with duty := d } u)
      (stands : State.keepsBut { s with duty := d } u [.seq, .regulator, .composer, .island]) :
      State.MovedSet { s with duty := u.duty } u ∧ u.ladder = s.ladder := by
    have duty : u.duty = d := stands .duty (by decide)
    rw [duty]
    exact ⟨set, stands .ladder (by decide)⟩
  by_cases need : s.formNeeds.anyNeed = true
  · rw [State.evaluate_needed need]
    split
    · exact decided (State.takeStart_moved _) (State.takeStart_frame _)
    · exact decided (State.abortUnload_moved _) (State.abortUnload_frame _)
  · rw [State.evaluate_unneeded need]
    dsimp only
    split
    · exact decided (State.takeStop_moved _) (State.takeStop_frame _)
    · exact decided (.refl _) (.refl _ _)

/-- A set in STANDBY stays there unless the start check passes and its STOP output is free (R81, R104). -/
theorem State.evaluate_stays {s : State} (standby : s.seq.state = .standby)
    (stays : ¬ s.startCheck s.formNeeds = true ∨ s.seq.stopPulse ≠ none ∨ s.seq.stopHeld = true) :
    s.evaluate.seq = s.seq := by
  have other {st : SetState} (ne : .standby ≠ st) : s.seq.state ≠ st := by rwa [standby]
  by_cases need : s.formNeeds.anyNeed = true
  · rw [State.evaluate_needed need]
    split
    · next starts =>
      refine (congrArg State.seq (State.takeStart_held ?_)).trans rfl
      exact stays.resolve_left (not_not_intro starts)
    · refine (congrArg State.seq (State.abortUnload_of_ne ?_)).trans rfl
      exact other nofun
  · rw [State.evaluate_unneeded need]
    dsimp only
    split
    · refine (congrArg State.seq (State.takeStop_of_ne ?_)).trans rfl
      exact other nofun
    · rfl

/-- The end of an event that found the card as `s`, has left it as `v` without a change that is reported at once, and has
then moved the set alone (R15, R16). -/
theorem State.MovedSet.followed_set {s v u : State} (set : v.MovedSet u) (ladder : u.ladder = v.ladder)
    (seq : v.seq.state = s.seq.state) (groups : v.groups = s.groups) (admission : v.admission = s.admission) :
    s.Followed { v with seq := u.finish.seq, regulator := u.finish.regulator } u.finish := by
  obtain ⟨moved, stands, -, waits⟩ := set
  have requested : State.Requested { v with seq := u.seq, regulator := u.regulator } u := by
    unfold State.Moved at moved
    rwa [stands, ladder] at moved
  rw [State.finish_seq, State.finish_regulator]
  rcases waits with ⟨still, waits⟩ | ⟨changed, waits⟩
  · exact requested.followed_plain (State.not_urges_of_setState (still.trans seq) groups admission) waits
  · exact requested.followed_urgent (.inl fun same => changed (same.trans seq.symm)) waits

/-! ### The evaluation at its instant (R95) -/

/-- The card at the instant of an evaluation, its timer started afresh (R95). -/
def State.atEvaluation (s : State) (d : Nat) : State :=
  { s.advanceTo d with duty := { s.duty with evaluation := some (max s.now d + 100000) } }

theorem exec_evaluation {s : State} {d : Nat} (awake : s.Awake) (runs : s.duty.evaluation = some d) :
    exec .evaluation s = .next (s.atEvaluation d).evaluate.finish := by
  show execEvaluation s = _
  rw [execEvaluation, onExpiry_of awake runs]
  rfl

/-- The end of an evaluation moves the duty logic and the set, and a changed set state is reported at once (R15, R76). -/
theorem State.evaluate_followed (s : State) (d : Nat) :
    let t := (s.atEvaluation d).evaluate.finish
    s.Followed { s.advanceTo d with duty := t.duty, seq := t.seq, regulator := t.regulator } t := by
  intro t
  obtain ⟨set, ladder⟩ := (s.atEvaluation d).evaluate_moved
  have followed := set.followed_set (s := s) ladder rfl rfl rfl
  rwa [← State.finish_duty] at followed

/-- Settles O41: the listings by their own lemmas, and the evaluation by the one decision it comes to. -/
theorem needStartsASetOrAbortsAnUnload : Obligations.NeedStartsASetOrAbortsAnUnload := by
  refine ⟨fun s => ⟨⟨s.memberState_own, s.memberRank_own⟩, fun i st peer => s.memberState_peer peer st,
    fun i r peer record => by simp [State.memberRank, peer, record], fun st =>
      ⟨s.mem_inOrder st, s.inOrder_nodup st, s.inOrder_pairwise st⟩⟩, ?_⟩
  intro s d awake runs high need first check
  let v := s.atEvaluation d
  have loaded : v.island.highLoad = true ↔ high := decide_eq_true_iff
  have needs : v.formNeeds.anyNeed = true ↔ need := by
    rw [v.anyNeed_iff, loaded]
    rfl
  have checks : v.startCheck v.formNeeds = true ↔ check := by
    rw [v.startCheck_iff, needs]
    simp only [State.Precedes, State.memberRank_own]
    rfl
  refine ⟨_, exec_evaluation awake runs, s.evaluate_followed d, fun needed unloading => ?_,
    fun starts standby free unheld => ?_, fun standby stays => ?_⟩
  · have waits : ¬ v.startCheck v.formNeeds = true := fun starts => by
      obtain ⟨-, -, -, standby, -⟩ := checks.1 starts
      exact nomatch standby.symm.trans unloading
    rw [State.finish_seq, State.finish_regulator, State.evaluate_needed (needs.2 needed), if_neg waits]
    exact State.abortUnload_unloading unloading
  · have now : v.evaluate.finish.now = v.now := (State.finish_now _).trans (v.evaluate_within .clock (by decide))
    rw [now, State.finish_seq, State.evaluate_needed (needs.2 starts.1), if_pos (checks.2 starts)]
    exact State.takeStart_stands standby free unheld
  · exact (State.finish_seq _).trans (State.evaluate_stays standby (stays.imp_left (mt checks.1)))

end Sys2Proof.Machine
end

section
/-! The evaluation of the duty logic, continued (R64, R90, R95 to R103, R106 to R108): the duty fields that it leaves, the
stop counter with the conditions under which it rises, and the stop decision. -/

namespace Sys2Proof.Machine

/-! ### The stop counter and the stop check (R106 to R108) -/

/-- No member stands in any of the given set states (R106). -/
theorem State.memberIn_false (s : State) (states : List SetState) :
    s.memberIn states = false ↔ ∀ i ∈ s.island.members, s.memberState i ∉ states.map some := by
  simp only [State.memberIn, List.any_eq_false]
  refine forall₂_congr fun i _ => ?_
  cases s.memberState i <;> simp

/-- Every island claim is CLAIMING, GRANTED or WAITING, so that only an island without claims is quiet (R106, R148). -/
theorem State.claimIn_false (s : State) : s.claimIn [.claiming, .granted, .waiting] = false ↔ s.islandClaims = [] := by
  have listed (c : IslandClaim) : [ClaimCode.claiming, .granted, .waiting].contains c.state = true := by
    cases c.state <;> rfl
  simp only [State.claimIn, List.any_eq_false, listed, not_true_eq_false, imp_false, List.eq_nil_iff_forall_not_mem]

/-- The conditions of the stop counter in the statements' words (R106). -/
theorem State.quiet_iff (s : State) : s.quiet s.formNeeds = true
    ↔ ¬ s.formNeeds.anyNeed = true ∧ 100 * s.island.pLoad ≤ 40 * (s.island.rCap : Int)
      ∧ (∀ i ∈ s.island.members,
          s.memberState i ∉ [some SetState.starting, some .loading, some .unloading, some .opening])
      ∧ s.islandClaims = [] := by
  have still := s.memberIn_false [.starting, .loading, .unloading, .opening]
  simp only [State.quiet, Bool.and_eq_true, decide_eq_true_eq, Bool.not_eq_true', Bool.not_eq_true, still,
    s.claimIn_false, List.map_cons, List.map_nil]
  tauto

/-- Any need keeps the stop counter from rising (R106). -/
theorem State.quiet_unneeded {s : State} (quiet : s.quiet s.formNeeds = true) : ¬ s.formNeeds.anyNeed = true :=
  (s.quiet_iff.1 quiet).1

/-- The stop check in the statements' words (R107, R108). -/
theorem State.stopCheck_iff (s : State) : s.stopCheck = true
    ↔ (s.own ∈ s.island.members ∧ s.seq.state = .sharing
        ∧ ∀ i ∈ s.island.members, s.memberState i = some .sharing → s.Precedes i s.own)
      ∧ 2 < s.island.online ∧ 100 * s.island.pLoad ≤ 75 * ((s.island.rCap : Int) - s.conf.rating) := by
  simp only [State.stopCheck, Bool.and_eq_true, beq_iff_eq, decide_eq_true_eq, s.inOrder_last, State.memberState_own,
    Option.some.injEq, and_imp, and_assoc]

theorem State.stopAfter_quiet {s : State} {d : Duty} (quiet : s.quiet d = true) :
    s.stopAfter d = min 3000 (s.duty.stopCounter + 1) := if_pos quiet

theorem State.stopAfter_disturbed {s : State} {d : Duty} (disturbed : ¬ s.quiet d = true) : s.stopAfter d = 0 :=
  if_neg disturbed

/-! ### The stop decision (R90, R97, R108) -/

/-- The stop decision: the stop counter has reached its limit, and the stop check passes (R108). -/
def State.StopDecided (s : State) : Prop := s.stopAfter s.formNeeds = 3000 ∧ s.stopCheck = true

/-- The stop decision at a SHARING set: it unloads as AUTOMATIC (R64, R90, R108). -/
theorem State.takeStop_stands {s : State} (sharing : s.seq.state = .sharing) :
    s.takeStop.seq
        = { s.seq with state := .unloading, unloadKind := .automatic, unloadTimer := some (s.now + 60000000) }
      ∧ s.takeStop.regulator = { s.regulator with rampTarget :=
          (if s.loader.mode = .run then some (perUnit s.island.ownP s.conf.rating) else none) } := by
  rw [State.takeStop, if_pos sharing]
  exact s.enterUnloading_stands .automatic

/-- A stop decision clears the stop counter (R108). -/
theorem State.evaluate_stops {s : State} (idle : ¬ s.formNeeds.anyNeed = true) (decided : s.StopDecided) :
    s.evaluate = State.takeStop { s with duty := { s.formNeeds with stopCounter := 0 } } := by
  obtain ⟨full, passes⟩ := decided
  simp [State.evaluate_unneeded idle, full, passes]

/-- With neither a need nor a stop decision an evaluation moves the duty fields alone (R97). -/
theorem State.evaluate_rests {s : State} (idle : ¬ s.formNeeds.anyNeed = true) (undecided : ¬ s.StopDecided) :
    s.evaluate = { s with duty := { s.formNeeds with stopCounter := s.stopAfter s.formNeeds } } := by
  have stays : (decide (s.stopAfter s.formNeeds = 3000) && s.stopCheck) = false := by
    simpa [State.StopDecided] using undecided
  simp [State.evaluate_unneeded idle, stays]

/-- An evaluation leaves the needs as it has formed them, and the stop counter at 0 unless it is quiet (R97, R106). -/
theorem State.evaluate_duty (s : State) : ∃ n, s.evaluate.duty = { s.formNeeds with stopCounter := n }
    ∧ (¬ s.quiet s.formNeeds = true → n = 0) := by
  by_cases need : s.formNeeds.anyNeed = true
  · refine ⟨0, ?_, fun _ => rfl⟩
    rw [State.evaluate_needed need]
    split
    · exact State.takeStart_frame _ .duty (by decide)
    · exact State.abortUnload_frame _ .duty (by decide)
  · by_cases decided : s.StopDecided
    · refine ⟨0, ?_, fun _ => rfl⟩
      rw [State.evaluate_stops need decided]
      exact State.takeStop_frame _ .duty (by decide)
    · refine ⟨_, ?_, State.stopAfter_disturbed⟩
      rw [State.evaluate_rests need decided]

/-! ### The evaluation at its instant, continued (R95) -/

theorem State.evaluation_now (s : State) (d : Nat) : (s.atEvaluation d).evaluate.finish.now = max s.now d :=
  (State.finish_now _).trans ((s.atEvaluation d).evaluate_within .clock (by decide))

/-- Settles O40: the duty fields are the needs as formed, and a need is no quiet time. -/
theorem evaluationFormsTheNeeds : Obligations.EvaluationFormsTheNeeds := by
  intro s d awake runs high
  let v := s.atEvaluation d
  have loaded : v.island.highLoad = true ↔ high := decide_eq_true_iff
  obtain ⟨n, formed, disturbed⟩ := v.evaluate_duty
  have duty : v.evaluate.finish.duty = { v.formNeeds with stopCounter := n } := (State.finish_duty _).trans formed
  refine ⟨_, exec_evaluation awake runs, s.evaluate_followed d, ?_⟩
  rw [s.evaluation_now d, duty]
  refine ⟨rfl, rfl, fun h => if_pos (loaded.2 h), fun h => if_neg (mt loaded.1 h), decide_eq_true_iff, v.claimIn_waiting,
    decide_eq_true_iff, ?n4, fun need => disturbed fun quiet => State.quiet_unneeded quiet ?need,
    v.mem_inOrder .standby, v.inOrder_pairwise .standby⟩
  case n4 =>
    show (v.duty.tripRecent.isSome && v.island.highLoad) = true ↔ _
    rw [Bool.and_eq_true, Option.isSome_iff_ne_none, loaded]
    rfl
  case need => simpa [Duty.anyNeed, or_assoc] using need

/-- Settles O42: the quiet conditions and the stop check in the statement's words, and what the stop decision does to the
set. -/
theorem evaluationStopsTheLastSet : Obligations.EvaluationStopsTheLastSet := by
  intro s d awake runs two light quiet last check
  let v := s.atEvaluation d
  have idle (calm : quiet) : ¬ v.formNeeds.anyNeed = true := by
    obtain ⟨-, -, unclaimed⟩ := calm
    have noClaim : v.islandClaims = [] := unclaimed
    have low : ¬ v.island.highLoad = true := mt decide_eq_true_iff.1 light
    have many : ¬ v.island.online < 2 := Nat.not_lt.2 two
    simp [v.anyNeed_iff, noClaim, low, many]
  have quiets : v.quiet v.formNeeds = true ↔ quiet := v.quiet_iff.trans (and_iff_right_of_imp idle)
  have checks : v.stopCheck = true ↔ check := by
    rw [v.stopCheck_iff]
    simp only [State.Precedes, State.memberRank_own]
    rfl
  have counts (calm : quiet) : v.stopAfter v.formNeeds = min 3000 (s.duty.stopCounter + 1) :=
    State.stopAfter_quiet (quiets.2 calm)
  have rests (calm : quiet) (undecided : ¬ v.StopDecided) :
      v.evaluate.finish.duty.stopCounter = min 3000 (s.duty.stopCounter + 1) ∧ v.evaluate.finish.seq = s.seq := by
    rw [State.finish_duty, State.finish_seq, State.evaluate_rests (idle calm) undecided]
    exact ⟨counts calm, rfl⟩
  refine ⟨_, exec_evaluation awake runs, fun noisy => ?_, fun calm below => ?_, fun calm full fails => ?_,
    fun calm full passes => ?_⟩
  · obtain ⟨n, formed, disturbed⟩ := v.evaluate_duty
    rw [State.finish_duty, formed]
    exact disturbed (mt quiets.1 noisy)
  · have short : ¬ v.StopDecided := fun ⟨reached, _⟩ => by have := counts calm; omega
    obtain ⟨counter, seq⟩ := rests calm short
    exact ⟨counter.trans (Nat.min_eq_right (by omega)), seq⟩
  · obtain ⟨counter, seq⟩ := rests calm fun ⟨_, passes⟩ => fails (checks.1 passes)
    exact ⟨counter.trans (Nat.min_eq_left (by omega)), seq⟩
  · have decided : v.StopDecided := ⟨by have := counts calm; omega, checks.2 passes⟩
    obtain ⟨⟨-, sharing, -⟩, -⟩ := passes
    rw [s.evaluation_now d, State.finish_duty, State.finish_seq, State.finish_regulator,
      State.evaluate_stops (idle calm) decided]
    exact ⟨congrArg Duty.stopCounter (State.takeStop_frame _ .duty (by decide)), State.takeStop_stands sharing⟩

end Sys2Proof.Machine
end

section
/-! Shed groups (Section 7): feedback edges and the confirmation window (R111 to R118). Each of them rewrites one channel,
and a change of its group's state is reported at once (R15, R121). -/

namespace Sys2Proof.Machine

/-! ### One channel rewritten -/

@[simp] theorem State.setChannel_setChannel (s : State) (i : Fin 6) (c d : Channel) :
    (s.setChannel i c).setChannel i d = s.setChannel i d := by
  simp [State.setChannel]

/-- The end of an event that has rewritten a channel and left its group's state (R15, log entry 7). -/
theorem State.setChannel_followed {s b : State} {i : Fin 6} {c : Channel} (seq : b.seq = s.seq)
    (groups : b.groups = s.groups) (admission : b.admission = s.admission) (state : c.state = (s.channel i).state) :
    s.Followed (b.setChannel i c) (b.setChannel i c).finish := by
  refine (State.Requested.refl _).followed_plain ?_ rfl
  rintro (set | ⟨j, group⟩ | ⟨n, claim, -⟩)
  · exact set (congrArg Sequencer.state seq)
  · by_cases e : i = j
    · subst e
      exact group ((congrArg Channel.state (b.channel_setChannel i c)).trans state)
    · exact group (by rw [State.channel_setChannel_ne b c e, State.channel, groups]; rfl)
  · exact claim (congrArg (fun a : Admission => a.claims[n].state) admission)

/-- The end of an event that has rewritten a channel and then changed its group's state (R15, R121). -/
theorem State.setChannel_setGroupState_followed {s u : State} {i : Fin 6} {st : GroupState} (c : Channel)
    (moves : some st ≠ (s.channel i).state) :
    s.Followed (u.setChannel i { c with state := some st }) ((u.setChannel i c).setGroupState i st).finish := by
  have followed := State.setGroupState_followed (u := u.setChannel i c) moves
  rwa [State.channel_setChannel, State.setChannel_setChannel] at followed

/-! ### Feedback edges (R111) -/

theorem exec_feedbackEdge {s : State} {i : Fin 6} {closed : Bool} (awake : s.Awake)
    (edge : s.pins.feedback[i] ≠ closed) :
    exec (.feedbackEdge i closed) s =
      .next (State.takeEdge { s with pins := { s.pins with feedback := s.pins.feedback.set i closed } } i closed).finish := by
  have up : State.awake { s with pins := { s.pins with feedback := s.pins.feedback.set i closed } } = true :=
    State.Awake.awake awake
  exact (if_neg edge).trans (congrArg _ (if_pos up))

/-- An edge in INHIBITED sets its own mark (R111). -/
theorem Channel.mark_eq (c : Channel) (closing : Bool) : c.mark closing =
    { c with openingSeen := c.openingSeen || !closing, closingSeen := c.closingSeen || closing } := by
  cases closing <;> simp [Channel.mark]

/-- In INHIBITED an edge is latched (R111). -/
theorem State.takeEdge_inhibited {s : State} {i : Fin 6} (state : (s.channel i).state = some .inhibited)
    (closing : Bool) : s.takeEdge i closing = s.setChannel i { s.channel i with
      openingSeen := (s.channel i).openingSeen || !closing, closingSeen := (s.channel i).closingSeen || closing } := by
  rw [← Channel.mark_eq, State.takeEdge, state]

/-- In any other state an edge is taken at once (R111). -/
theorem State.takeEdge_taken {s : State} {i : Fin 6} {st : GroupState} (state : (s.channel i).state = some st)
    (free : st ≠ .inhibited) (closing : Bool) : s.takeEdge i closing =
      if st.onEdge closing = st then s.setChannel i { s.channel i with openingSeen := false, closingSeen := false }
      else (s.setChannel i { s.channel i with openingSeen := false, closingSeen := false, window := none }).setGroupState i
        (st.onEdge closing) := by
  unfold State.takeEdge
  split
  · simp_all
  · simp_all
  · rename_i held _ other
    obtain rfl : held = st := Option.some.inj (other.symm.trans state)
    simp

/-- An edge taken at once clears both marks; where it moves the group it stops the window (R111, R113, R115, R117,
R118). -/
theorem State.takeEdge_followed {s b : State} {i : Fin 6} {st : GroupState} (seq : b.seq = s.seq)
    (groups : b.groups = s.groups) (admission : b.admission = s.admission) (state : (s.channel i).state = some st)
    (free : st ≠ .inhibited) (closing : Bool) :
    s.Followed (b.setChannel i { s.channel i with
        state := some (st.onEdge closing), openingSeen := false, closingSeen := false
        window := if st.onEdge closing = st then (s.channel i).window else none })
      (b.takeEdge i closing).finish := by
  have same : b.channel i = s.channel i := by rw [State.channel, groups]; rfl
  rw [State.takeEdge_taken (same ▸ state) free, same]
  by_cases stays : st.onEdge closing = st
  · simp only [stays, if_true, ← state]
    exact State.setChannel_followed seq groups admission rfl
  · rw [if_neg stays, if_neg stays]
    exact State.setChannel_setGroupState_followed _ (by simpa [state] using stays)

/-- An opening edge confirms a shed and moves a group that should be closed (R113, R117, R118). -/
theorem GroupState.onEdge_opening (st : GroupState) :
    (st = .shedPending ∨ st = .failed .shed → st.onEdge false = .shed)
      ∧ (st = .connected ∨ st = .failed .restore → st.onEdge false = .openExternal)
      ∧ (st = .shed ∨ st = .restorePending ∨ st = .openExternal → st.onEdge false = st) := by
  refine ⟨?_, ?_, ?_⟩
  · rintro (rfl | rfl) <;> rfl
  · rintro (rfl | rfl) <;> rfl
  · rintro (rfl | rfl | rfl) <;> rfl

/-- A closing edge connects every group but a pending shed (R113, R115, R117, R118). -/
theorem GroupState.onEdge_closing {st : GroupState} (free : st ≠ .inhibited) (other : st ≠ .shedPending) :
    st.onEdge true = .connected := by
  cases st with
  | inhibited => exact absurd rfl free
  | shedPending => exact absurd rfl other
  | failed command => cases command <;> rfl
  | _ => rfl

/-! ### The confirmation window (R113, R115) -/

/-- A group that fails is reported twice over: as an urgent request, and as an alarm event (R113, R115, R121, R177). -/
theorem State.setGroupState_raise_followed {s u : State} {i : Fin 6} {st : GroupState} (c : Channel) (k : AlarmKind)
    (moves : some st ≠ (s.channel i).state) :
    k ∈ (((u.setChannel i c).setGroupState i st).raise k).finish.alarms.latched
      ∧ s.Followed (u.setChannel i { c with state := some st })
          (((u.setChannel i c).setGroupState i st).raise k).finish := by
  have requested := (State.setGroupState_requested (u.setChannel i c) i st).trans (State.raise_requested _ k)
  rw [State.channel_setChannel, State.setChannel_setChannel] at requested
  exact ⟨State.finish_latches _ _ ((State.mem_raise _ _ _).2 (.inr rfl)),
    requested.followed_urgent (.inr (.inl ⟨i, by rw [State.channel_setChannel]; exact moves⟩))
      (State.setGroupState_waiting _ i st)⟩

theorem exec_confirmationWindowExpiry {s : State} {i : Fin 6} {d : Nat} {st : GroupState} {command : GroupCommand}
    (awake : s.Awake) (runs : (s.channel i).window = some d) (state : (s.channel i).state = some st)
    (pending : st.pendingCommand = some command) :
    exec (.confirmationWindowExpiry i) s =
      .next ((((s.advanceTo d).setChannel i { s.channel i with window := none }).setGroupState i
        (.failed command)).raise .groupFail).finish := by
  show execConfirmationWindowExpiry i s = _
  rw [execConfirmationWindowExpiry, onExpiry_of awake runs]
  simp [state, pending]

/-- A pending group whose window ends enters FAILED with its command (R113, R115). -/
theorem exec_confirmationWindowExpiry_fails {s : State} {i : Fin 6} {d : Nat} {st : GroupState} {command : GroupCommand}
    (awake : s.Awake) (runs : (s.channel i).window = some d) (state : (s.channel i).state = some st)
    (pending : st.pendingCommand = some command) :
    ∃ t, exec (.confirmationWindowExpiry i) s = .next t ∧ .groupFail ∈ t.alarms.latched
      ∧ s.Followed ((s.advanceTo d).setChannel i { s.channel i with state := some (.failed command), window := none })
          t := by
  refine ⟨_, exec_confirmationWindowExpiry awake runs state pending, State.setGroupState_raise_followed _ _ ?_⟩
  rw [state]
  rintro ⟨⟩
  exact nomatch pending

/-- Settles O43: in INHIBITED the edge is latched, elsewhere it is taken by the tables, and a window ends in FAILED. -/
theorem feedbackMovesTheGroup : Obligations.FeedbackMovesTheGroup := by
  refine fun s i awake => ⟨fun closed st edge state => ?edges, fun d command runs state => ?window⟩
  case edges =>
    intro b
    refine ⟨_, exec_feedbackEdge awake edge, ?_, fun free => ?_⟩
    · rintro rfl
      rw [State.takeEdge_inhibited (s := b) state]
      exact State.setChannel_followed rfl rfl rfl rfl
    · obtain ⟨confirms, opens, rests⟩ := st.onEdge_opening
      refine ⟨st.onEdge closed, State.takeEdge_followed (b := b) rfl rfl rfl state free closed, ?_, ?_, ?_, ?_, ?_⟩
      · rintro rfl; exact confirms
      · rintro rfl; exact opens
      · rintro rfl; exact rests
      · rintro rfl rfl; rfl
      · rintro rfl; exact GroupState.onEdge_closing free
  case window =>
    cases command with
    | shed => exact exec_confirmationWindowExpiry_fails awake runs state rfl
    | restore => exact exec_confirmationWindowExpiry_fails awake runs state rfl

end Sys2Proof.Machine
end

section
/-! The service port's INHIBIT and ENABLE (R119, R120): a request at an IDLE port, what each of the two makes of the group it
names, and the answer that stands in what follows (R174). -/

namespace Sys2Proof.Machine

/-! ### A request at an IDLE port (R172, R174) -/

/-- A message closed by its check byte sums to 0 (R172). -/
theorem byteSum_withCheck (bs : List Byte) : byteSum (withCheck bs) = 0#8 := by
  simp [byteSum, withCheck]

/-- A request with one argument byte is answered as its kind serves it (R173, R174). -/
theorem serviceRequest_five {s u : State} {r : Reply} {kind : Nat} {arg : Byte} (awake : s.Awake)
    (idle : s.service.state = .idle) (byte : kind < 256) (length : requestLength kind = some 5)
    (served : (s.receivedUpTo [0x6D#8, 5#8, byteOf kind, arg]).serve kind arg.toNat = (u, r)) :
    serviceRequest (requestBytes kind [arg]) s = .next (u.respond kind r) := by
  have kept : (byteOf kind).toNat = kind := toNat_byteOf byte
  have form : requestFormGood (requestBytes kind [arg]) = true := by
    rw [requestFormGood, requestBytes, byteSum_withCheck]
    simp [withCheck, kept, length]
  obtain ⟨check, five⟩ : ∃ check, requestBytes kind [arg] = [0x6D#8, 5#8, byteOf kind, arg, check] := ⟨_, rfl⟩
  rw [five] at form ⊢
  rw [serviceRequest, whileAwake_of awake, s.bytesToCome_idle idle, s.takeBytes_five idle, State.takeMessage, if_pos form]
  simp only [List.getD_cons_succ, List.getD_cons_zero, kept, served]

/-- The end of an event does not look at the port, nor does the port at the end of an event (R174). -/
theorem State.finish_respond (s : State) (kind : Nat) (r : Reply) : s.finish.respond kind r = (s.respond kind r).finish := by
  refine Eq.trans ?_ (s.finish_setService _).symm
  rw [State.respond, State.finish_service]
  rfl

/-- A change of a group's state, answered at the port (R174). -/
theorem State.setGroupState_finish_respond (s : State) (i : Fin 6) (st : GroupState) (kind : Nat) (r : Reply) :
    (s.setGroupState i st).finish.respond kind r = ((s.respond kind r).setGroupState i st).finish := by
  rw [State.finish_respond]
  refine congrArg State.finish (Eq.trans ?_ (s.setGroupState_setService _ i st).symm)
  rw [State.respond, (s.setGroupState_frame i st) .service (by decide)]
  rfl

/-- An answer stands in place of the request that the port has stored (R174). -/
theorem State.receivedUpTo_respond (s : State) (bs : List Byte) (kind : Nat) (r : Reply) :
    (s.receivedUpTo bs).respond kind r = s.respond kind r := rfl

/-! ### INHIBIT and ENABLE (R119, R120) -/

/-- A configured channel, named by its index. -/
theorem State.namedChannel_of {s : State} {i : Fin 6} {st : GroupState} (state : (s.channel i).state = some st) :
    s.namedChannel (byteOf i.val).toNat = some (i, st) := by
  rw [toNat_byteOf (by omega), State.namedChannel, dif_pos i.isLt, state]
  rfl

/-- No channel is named by a number that is none, or is that of a channel not configured (R119, R120). -/
theorem State.namedChannel_eq_none {s : State} {n : Nat} (no : ∀ h : n < 6, (s.channel ⟨n, h⟩).state = none) :
    s.namedChannel n = none := by
  unfold State.namedChannel
  split
  · rename_i h
    rw [no h]
    rfl
  · rfl

/-- INHIBIT at a group that is neither pending nor INHIBITED (R119). -/
theorem State.serveInhibit_moves {s : State} {n : Nat} {i : Fin 6} {st : GroupState}
    (named : s.namedChannel n = some (i, st)) (shed : st ≠ .shedPending) (restore : st ≠ .restorePending)
    (free : st ≠ .inhibited) :
    s.serveInhibit n = (((s.clearMarks i).setGroupState i .inhibited).finish, .ok []) := by
  rw [State.serveInhibit, named]
  cases st with
  | shedPending => exact absurd rfl shed
  | restorePending => exact absurd rfl restore
  | inhibited => exact absurd rfl free
  | _ => rfl

/-- INHIBIT at a pending group (R119). -/
theorem State.serveInhibit_busy {s : State} {n : Nat} {i : Fin 6} {st : GroupState}
    (named : s.namedChannel n = some (i, st)) (pending : st = .shedPending ∨ st = .restorePending) :
    s.serveInhibit n = (s, .reject .groupBusy) := by
  rw [State.serveInhibit, named]
  rcases pending with rfl | rfl <;> rfl

theorem State.serveInhibit_stays {s : State} {n : Nat} {i : Fin 6} (named : s.namedChannel n = some (i, .inhibited)) :
    s.serveInhibit n = (s, .ok []) := by
  rw [State.serveInhibit, named]

theorem State.serveInhibit_unnamed {s : State} {n : Nat} (named : s.namedChannel n = none) :
    s.serveInhibit n = (s, .reject .badArgument) := by
  rw [State.serveInhibit, named]

/-- ENABLE at an INHIBITED group takes its feedback level (R120). -/
theorem State.serveEnable_moves {s : State} {n : Nat} {i : Fin 6} (named : s.namedChannel n = some (i, .inhibited)) :
    s.serveEnable n = (((s.clearMarks i).setGroupState i
      (if s.pins.feedback[i] then .connected else .openExternal)).finish, .ok []) := by
  rw [State.serveEnable, named]

theorem State.serveEnable_stays {s : State} {n : Nat} {i : Fin 6} {st : GroupState}
    (named : s.namedChannel n = some (i, st)) (free : st ≠ .inhibited) : s.serveEnable n = (s, .ok []) := by
  rw [State.serveEnable, named]
  cases st with
  | inhibited => exact absurd rfl free
  | _ => rfl

theorem State.serveEnable_unnamed {s : State} {n : Nat} (named : s.namedChannel n = none) :
    s.serveEnable n = (s, .reject .badArgument) := by
  rw [State.serveEnable, named]

section
variable {s u : State} {r : Reply} {arg : Byte} (awake : s.Awake) (idle : s.service.state = .idle)
include awake idle

theorem exec_inhibit (served : (s.receivedUpTo [0x6D#8, 5#8, byteOf 11, arg]).serveInhibit arg.toNat = (u, r)) :
    exec (.inhibit arg) s = .next (u.respond 11 r) :=
  serviceRequest_five awake idle (by decide) rfl served

theorem exec_enable (served : (s.receivedUpTo [0x6D#8, 5#8, byteOf 12, arg]).serveEnable arg.toNat = (u, r)) :
    exec (.enable arg) s = .next (u.respond 12 r) :=
  serviceRequest_five awake idle (by decide) rfl served

end

/-- A group that INHIBIT or ENABLE has moved, with both marks cleared: the port's answer stands in what follows (R15, R119 to
R121). -/
theorem State.clearMarks_respond_followed {s : State} {i : Fin 6} {st : GroupState} (bs : List Byte) (kind : Nat) (r : Reply)
    (moves : some st ≠ (s.channel i).state) :
    s.Followed ((s.setChannel i { s.channel i with
        state := some st, openingSeen := false, closingSeen := false }).respond kind r)
      ((((s.receivedUpTo bs).clearMarks i).setGroupState i st).finish.respond kind r) := by
  rw [State.setGroupState_finish_respond]
  exact State.setChannel_setGroupState_followed (u := s.respond kind r) _ moves

/-- Settles O53: each request by the channel that it names and the state of that channel's group. -/
theorem inhibitAndEnableWorkTheGroup : Obligations.InhibitAndEnableWorkTheGroup := by
  refine fun s awake idle => ⟨fun i st state => ?configured, fun b no => ?unconfigured⟩
  case configured =>
    have named (bs : List Byte) : (s.receivedUpTo bs).namedChannel (byteOf i.val).toNat = some (i, st) :=
      State.namedChannel_of state
    refine ⟨fun shed restore free => ?_, fun pending => ?_, ?_, ?_, fun free => ?_⟩
    · refine ⟨_, exec_inhibit awake idle (State.serveInhibit_moves (named _) shed restore free), ?_⟩
      exact State.clearMarks_respond_followed _ _ _ (by simpa [state] using free.symm)
    · rw [exec_inhibit awake idle (State.serveInhibit_busy (named _) pending), State.receivedUpTo_respond]
    · rintro rfl
      rw [exec_inhibit awake idle (State.serveInhibit_stays (named _)), State.receivedUpTo_respond]
    · rintro rfl
      refine ⟨_, exec_enable awake idle (State.serveEnable_moves (named _)), ?_⟩
      exact State.clearMarks_respond_followed _ _ _ (by rw [state]; split <;> simp)
    · rw [exec_enable awake idle (State.serveEnable_stays (named _) free), State.receivedUpTo_respond]
  case unconfigured =>
    have unnamed (bs : List Byte) : (s.receivedUpTo bs).namedChannel b.toNat = none := State.namedChannel_eq_none no
    rw [exec_inhibit awake idle (State.serveInhibit_unnamed (unnamed _)),
      exec_enable awake idle (State.serveEnable_unnamed (unnamed _))]
    exact ⟨rfl, rfl⟩

end Sys2Proof.Machine
end

section
/-! The block shed (R137 to R140): what its walk chooses, and the one that the own trip makes (R87). -/

namespace Sys2Proof.Machine

/-! ### The walk (R139) -/

@[simp] theorem chosenSum_nil : chosenSum [] = 0 := rfl

@[simp] theorem chosenSum_cons (e : LadderEntry) (es : List LadderEntry) :
    chosenSum (e :: es) = e.nominal + chosenSum es := by
  simp [chosenSum]

/-- The walk chooses from the front and passes over no eligible entry (R139). -/
theorem walk_fromFront (l : Ladder) (d : Int) (es : List LadderEntry) : walk l d es <+: es.filter l.eligible := by
  fun_induction walk l d es with
  | case1 => exact ⟨[], rfl⟩
  | case2 d e es _ => exact ⟨(e :: es).filter l.eligible, rfl⟩
  | case3 d e es _ eligible ih =>
    obtain ⟨behind, splits⟩ := ih
    exact ⟨behind, by rw [List.filter_cons_of_pos eligible, ← splits, List.cons_append]⟩
  | case4 d e es _ passed ih => rwa [List.filter_cons_of_neg passed]

/-- The walk ends at the deficit or with the eligible entries (R139). -/
theorem walk_all_or_reaches (l : Ladder) (d : Int) (es : List LadderEntry) :
    walk l d es = es.filter l.eligible ∨ d ≤ chosenSum (walk l d es) := by
  fun_induction walk l d es with
  | case1 => exact .inl rfl
  | case2 d e es done => exact .inr done
  | case3 d e es _ eligible ih =>
    rw [List.filter_cons_of_pos eligible, chosenSum_cons]
    exact ih.imp (congrArg (e :: ·)) (by omega)
  | case4 d e es _ passed ih => rwa [List.filter_cons_of_neg passed]

/-- Short of its last entry the walk has not reached the deficit (R139). -/
theorem walk_last_needed (l : Ladder) (d : Int) (es : List LadderEntry) {shorter : List LadderEntry}
    {last : LadderEntry} (ends : walk l d es = shorter ++ [last]) : chosenSum shorter < d := by
  fun_induction walk l d es generalizing shorter with
  | case1 => simp at ends
  | case2 => simp at ends
  | case3 d e es short _ ih =>
    cases shorter with
    | nil => simpa using short
    | cons x xs =>
      obtain ⟨rfl, rest⟩ := List.cons.inj ends
      have below := ih rest
      rw [chosenSum_cons]
      omega
  | case4 d e es _ _ ih => exact ih ends

/-! ### The deficit of the own trip (R138) -/

/-- The others' contributions are those of the peers among the members, whatever the sharing mode (R44, R138). -/
theorem State.otherContributions_eq (s : State) (members : List Station) (mode : SharingMode) :
    (s.contributions members mode).filter (fun c => decide (c.station ≠ s.own))
      = members.filterMap (fun i => if i = s.own then none else peerContribution i (s.entry i)) := by
  rw [State.contributions_eq, List.filter_filterMap]
  refine List.filterMap_congr fun i _ => ?_
  by_cases own : i = s.own
  · subst own
    have station : (s.ownContribution mode).station = s.own := State.contributionAt_station (s.contributionAt_own mode)
    rw [State.contributionAt_own, if_pos rfl]
    simp [station]
  · rw [if_neg own, ← State.contributionAt_peer own mode]
    cases contributes : s.contributionAt mode i with
    | none => rfl
    | some c => simp [State.contributionAt_station contributes, own]

/-- A block shed looks at the groups, the ladder, the clock and the others' contributions of the state before it. -/
theorem State.BlockShed.before {u w t : State} {i : Station} {p : Int} (h : w.BlockShed t i p)
    (groups : w.groups = u.groups) (ladder : w.ladder = u.ladder) (now : w.now = u.now)
    (others : (w.contributions w.island.members w.island.mode).filter (fun c => decide (c.station ≠ i))
      = (u.contributions u.island.members u.island.mode).filter (fun c => decide (c.station ≠ i))) :
    u.BlockShed t i p := by
  have channel (j : Fin 6) : w.channel j = u.channel j := by simp only [State.channel, groups]
  unfold State.BlockShed at h ⊢
  simpa only [groups, ladder, now, others, channel] using h

/-- A trip notice taken in RUN, with the end of the event (R137 to R140). -/
theorem State.noticed_blockShed {s : State} (run : s.mode = .run) (n : TripNotice) :
    s.BlockShed (s.noticed n).finish n.station n.p := by
  have shown : (s.noticed n).groups = (s.blockShed n).groups ∧ (s.noticed n).ladder = (s.blockShed n).ladder
      ∧ (s.noticed n).alarms = (s.blockShed n).alarms := by
    rw [State.noticed_of_run run]
    exact ⟨rfl, rfl, rfl⟩
  obtain ⟨groups, ladder, alarms⟩ := shown
  exact s.blockShed_done n ((State.finish_groups _).trans groups)
    ((State.finish_actionAge _).trans (congrArg Ladder.actionAge ladder))
    ((State.keepsLatches.of_eq alarms).trans (State.finish_latches _))

/-! ### The own trip (R87) -/

/-- The card as it takes the notice of its own trip: the change has been made known and reported (R76, R87). -/
def State.reportedTrip (s : State) : State := s.enterTripped.flush.resolve

/-- The report of a trip leaves what the card's own block shed looks at (R87, R138). -/
theorem State.reportedTrip_frame (s : State) : s.tripped.keepsBut s.reportedTrip followers :=
  s.tripped_requested.flushed_frame

theorem State.reportedTrip_ladder (s : State) : s.reportedTrip.ladder = s.ladder :=
  Eq.trans (s.enterTripped.flush_frame .ladder (by decide)) (State.setSetState_ladder _ _)

/-- The members stand across the report of a trip: neither the ties nor the peers move (R41, R87). -/
theorem State.reportedTrip_members {s : State} (resolved : s.resolve = s) :
    s.reportedTrip.island.members = s.island.members := by
  have frame := s.reportedTrip_frame
  have loader : s.reportedTrip.loader = s.loader := frame .loader (by decide)
  have peers : s.reportedTrip.peers = s.peers := frame .peers (by decide)
  have view : s.enterTripped.flush.island.tieView = s.island.tieView := by
    obtain ⟨-, -, -, -, entered, -, -⟩ := s.tripped_requested
    exact s.enterTripped.flush_tie.1.trans entered
  have same : s.reportedTrip.island.members = s.resolve.island.members := by
    show s.enterTripped.flush.membersIn
        (islandSections s.enterTripped.flush.conf.ownSection s.enterTripped.flush.island.tieView)
      = s.membersIn (islandSections s.conf.ownSection s.island.tieView)
    have loader : s.enterTripped.flush.loader = s.loader := loader
    have peers : s.enterTripped.flush.peers = s.peers := peers
    simp only [State.membersIn, State.own, State.conf, State.entry, loader, peers, view]
  rw [same, resolved]

/-- The own trip's block shed, as seen from the state before the trip (R87, R138 to R140). -/
theorem State.trip_blockShed {s : State} (run : s.loader.mode = .run) (resolved : s.resolve = s) :
    s.BlockShed s.trip.finish s.own s.island.ownP := by
  have frame := s.reportedTrip_frame
  have loader : s.reportedTrip.loader = s.loader := frame .loader (by decide)
  have peers : s.reportedTrip.peers = s.peers := frame .peers (by decide)
  have own : s.reportedTrip.own = s.own := State.own_of_loader loader
  have mode : s.reportedTrip.mode = .run := (congrArg Loader.mode loader).trans run
  have done : s.reportedTrip.BlockShed s.trip.finish s.own s.island.ownP := by
    rw [State.trip_eq]
    exact State.noticed_blockShed mode s.ownTripNotice
  refine done.before (frame .groups (by decide)) s.reportedTrip_ladder (frame .clock (by decide)) ?_
  have others := s.reportedTrip.otherContributions_eq s.reportedTrip.island.members s.reportedTrip.island.mode
  rw [own] at others
  rw [others, State.otherContributions_eq, State.reportedTrip_members resolved]
  simp only [State.entry, peers]

/-- Settles O46: the walk by induction along the ladder, and the own trip's shed behind its report. -/
theorem ownTripShedsTheChosenGroups : Obligations.OwnTripShedsTheChosenGroups := by
  refine ⟨fun l d _ => ?_, fun s awake island run closed loaded => ?_⟩
  · rw [← Ladder.eligible_eq]
    exact ⟨walk_fromFront l d l.entries, walk_all_or_reaches l d l.entries,
      fun _ _ ends => walk_last_needed l d l.entries ends⟩
  · obtain ⟨-, -, current⟩ := island
    have upToDate : s.resolve.island = s.island := congrArg State.island (current awake.2)
    let b : State := { s with pins := { s.pins with breaker := false } }
    have same : b.resolve.island = s.resolve.island := State.resolve_congr rfl rfl rfl rfl rfl rfl rfl
    have resolved : b.resolve = b := State.resolved_of_island (same.trans upToDate)
    refine ⟨_, exec_breakerOpenEdge awake closed, ?_⟩
    rw [State.breakerOpens_loaded (s := b) loaded]
    exact (State.trip_blockShed (s := b) run resolved).before rfl rfl rfl rfl

end Sys2Proof.Machine
end

section
/-! The hand-off (R133, R134, R136): where a slow step ends, what the next one finds, and the hand-off timer's
expiry. -/

namespace Sys2Proof.Machine

/-! ### The ladder behind a shed command (R126, R127) -/

/-- Of the own groups the ladder is listed from their states alone (R126, R127). -/
theorem State.ladderOf_of_states {s t : State} (states : ∀ i, (t.channel i).state = (s.channel i).state)
    (loader : t.loader = s.loader) (peers : t.peers = s.peers) (island : t.island = s.island) :
    t.ladderOf = s.ladderOf := by
  simp only [State.ladderOf, State.ownEntries, State.conf, State.own, State.entry, states, loader, peers, island]
  rfl

/-- A channel rewritten in the same group state leaves every group's state. -/
theorem State.setChannel_states {s : State} {i : Fin 6} {c : Channel} (state : c.state = (s.channel i).state)
    (j : Fin 6) : ((s.setChannel i c).channel j).state = (s.channel j).state := by
  by_cases same : i = j
  · subst same
    rw [State.channel_setChannel, state]
  · rw [State.channel_setChannel_ne s c same]

/-- The TRIP pulse, started or held back, leaves every group's state (R116). -/
theorem State.issueTrip_states (s : State) (i j : Fin 6) : ((s.issueTrip i).channel j).state = (s.channel j).state := by
  unfold State.issueTrip
  split
  · exact State.setChannel_states (by rfl) j
  · exact State.setChannel_states (s := s) (by rfl) j

/-- A shed command leaves the ladder up to date where it was (R112, R127). -/
theorem State.takeShed_listed {s : State} (listed : s.ladder.entries = s.ladderOf) (i : Fin 6) :
    (s.takeShed i).ladder.entries = (s.takeShed i).ladderOf := by
  by_cases connected : (s.channel i).state = some .connected
  · let v := s.setGroupState i .shedPending
    have takes : s.takeShed i = (v.startWindow i).issueTrip i := if_pos connected
    have frame : v.keepsBut ((v.startWindow i).issueTrip i) [.groups] :=
      (v.startWindow_frame i).trans (State.issueTrip_frame _ i)
    have states (j : Fin 6) : (((v.startWindow i).issueTrip i).channel j).state = (v.channel j).state :=
      (State.issueTrip_states _ i j).trans (State.setChannel_states (s := v) (by rfl) j)
    rw [takes, State.ladderOf_of_states states (frame .loader (by decide)) (frame .peers (by decide))
      (frame .island (by decide))]
    exact congrArg Ladder.entries (frame .ladder (by decide))
  · rwa [State.takeShed_of_ne connected]

/-- A slow step leaves the ladder up to date where it was (R127, R134). -/
theorem State.takeStep_listed {s : State} (listed : s.ladder.entries = s.ladderOf) :
    s.takeStep.ladder.entries = s.takeStep.ladderOf := by
  unfold State.takeStep
  split
  · exact listed
  · split
    · exact State.takeShed_listed (s := s.resetAge) listed _
    · exact listed

/-! ### Where a slow step begins and ends (R133 to R135) -/

/-- A slow step works on the first eligible entry (R128, R134). -/
theorem State.takeStep_first {s : State} (free : s.ladder.inFlight = none) : s.SlowStep s.takeStep
    (s.ladder.entries.find? (fun e => decide (e.state = .connected ∧ e.key ∉ s.ladder.skip))) := by
  rw [← Ladder.eligible_eq]
  exact State.takeStep_slowStep free

/-- A step that finds an own entry, or none, ends at once (R134). -/
theorem State.SlowStep.ended {s t : State} {first : Option LadderEntry} (h : s.SlowStep t first)
    (ends : ∀ e, first = some e → e.owner = .own) : t.ladder.inFlight = none := by
  cases first with
  | none =>
    obtain ⟨-, -, none⟩ := h
    exact none
  | some e =>
    simp only [State.SlowStep, if_pos (ends e rfl)] at h
    obtain ⟨none, -⟩ := h
    exact none

/-- A step that finds a peer's entry is in flight (R134). -/
theorem State.SlowStep.inFlight {s t : State} {e : LadderEntry} (h : s.SlowStep t (some e)) (peer : e.owner ≠ .own) :
    t.ladder.inFlight = some e.key := by
  simp only [State.SlowStep, if_neg peer] at h
  obtain ⟨-, flies, -⟩ := h
  exact flies

/-- The end of the event shows the slow step as it was made. -/
theorem State.SlowStep.finish {s t : State} {first : Option LadderEntry} (h : s.SlowStep t first) :
    s.SlowStep t.finish first :=
  h.later t.finish_groups t.finish_ladder t.finish_now t.finish_latches

theorem State.nextStep_inFlight {s : State} (busy : s.ladder.inFlight ≠ none) : s.nextStep = s :=
  if_neg fun begins => busy begins.1

theorem State.nextStep_unasked {s : State} (unasked : s.ladder.held = false) : s.nextStep = s :=
  if_neg (by simp [unasked])

/-- The card whose held request begins its step (R133). -/
def State.unheld (s : State) : State := { s with ladder := { s.ladder with held := false } }

theorem State.nextStep_held {s : State} (free : s.ladder.inFlight = none) (held : s.ladder.held = true) :
    s.nextStep = s.unheld.takeStep := if_pos ⟨free, held⟩

/-- Taking up a held request leaves the skip set (R128, R133). -/
theorem State.nextStep_skip (s : State) : s.nextStep.ladder.skip = s.ladder.skip := by
  unfold State.nextStep
  split
  · exact (State.takeStep_keeps _).1
  · rfl

/-- Where no step is in flight no request is left held (R133). -/
theorem State.nextStep_clears {s : State} (free : s.ladder.inFlight = none) : s.nextStep.ladder.held = false := by
  by_cases held : s.ladder.held = true
  · rw [State.nextStep_held free held]
    exact s.unheld.takeStep_keeps.2
  · rw [Bool.not_eq_true] at held
    rw [State.nextStep_unasked held, held]

/-- A held request begins a new slow step on the first eligible entry (R133, R134). -/
theorem State.nextStep_slowStep {s : State} (free : s.ladder.inFlight = none) (held : s.ladder.held = true) :
    s.SlowStep s.nextStep
      (s.ladder.entries.find? (fun e => decide (e.state = .connected ∧ e.key ∉ s.ladder.skip))) := by
  rw [State.nextStep_held free held]
  exact (State.takeStep_first (s := s.unheld) free).before rfl rfl

/-! ### The hand-off timer's expiry (R136) -/

/-- The card as its hand-off ends: the key in flight is in the skip set, and the step is to continue (R136). -/
def State.handedOff (s : State) (k : Key) : State := { s with ladder := { s.ladder with
  skip := if s.ladder.skip.contains k then s.ladder.skip else s.ladder.skip ++ [k]
  inFlight := none, handOff := none } }

theorem State.handedOff_skip (s : State) (k : Key) :
    (s.handedOff k).ladder.skip = if k ∈ s.ladder.skip then s.ladder.skip else s.ladder.skip ++ [k] :=
  if_congr List.contains_iff_mem rfl rfl

theorem exec_handoffTimerExpiry {s : State} {d : Nat} {k : Key} (awake : s.Awake) (runs : s.ladder.handOff = some d)
    (flies : s.ladder.inFlight = some k) :
    exec .handoffTimerExpiry s = .next ((s.advanceTo d).handedOff k).takeStep.nextStep.finish := by
  show execHandoffTimerExpiry s = _
  rw [execHandoffTimerExpiry, onExpiry_of awake runs]
  simp only [State.advanceTo_ladder, flies]
  rfl

/-- Settles O45: the step continues behind the hand-off, and a held request follows where it ends. -/
theorem handOffExpirySkipsAndContinues : Obligations.HandOffExpirySkipsAndContinues := by
  intro s d k awake runs flies skip first
  let v := (s.advanceTo d).handedOff k
  let u := v.takeStep
  have listed : v.ladder.skip = skip := (s.advanceTo d).handedOff_skip k
  obtain ⟨keptSkip, keptHeld⟩ : u.ladder.skip = skip ∧ u.ladder.held = s.ladder.held := listed ▸ v.takeStep_keeps
  have made : v.SlowStep u first := by
    have step := State.takeStep_first (s := v) rfl
    rwa [listed] at step
  have fromStart : s.SlowStep u first := made.before rfl rfl
  have moves : (s.advanceTo d).MovedGroups u.nextStep :=
    (State.MovedGroups.ladder _ _).trans (v.takeStep_moves.trans u.nextStep_moves)
  refine ⟨u.nextStep.finish, exec_handoffTimerExpiry awake runs flies, ?_, moves.followed rfl rfl rfl,
    fun unasked => ?_, fun e found peer => ?_, fun ends => ⟨?_, fun held current => ?_⟩⟩
  · rw [State.finish_ladder]
    exact u.nextStep_skip.trans keptSkip
  · have none := keptHeld.trans unasked
    rw [State.nextStep_unasked none]
    exact ⟨fromStart.finish, (congrArg Ladder.held u.finish_ladder).trans none⟩
  · have busy : u.ladder.inFlight ≠ none := by
      rw [found] at fromStart
      simp [fromStart.inFlight peer]
    rw [State.nextStep_inFlight busy]
    exact ⟨fromStart.finish, (congrArg Ladder.held u.finish_ladder).trans keptHeld⟩
  · rw [State.finish_ladder]
    exact State.nextStep_clears (made.ended ends)
  · have next := State.nextStep_slowStep (made.ended ends) (keptHeld.trans held)
    rw [keptSkip] at next
    exact ⟨u, (Ladder.set_frame _ _).comp v.takeStep_frame, keptSkip, State.takeStep_listed (s := v) (current awake.2),
      made.before rfl rfl, next.finish⟩

end Sys2Proof.Machine
end

section
/-! The stage counters (R132, R133): what a record makes of them, and the slow step that one at its limit requests. -/

namespace Sys2Proof.Machine

/-! ### The counters at a record (R132) -/

/-- The ladder with each stage counter stepped by the record: it rises where its condition holds, and is 0 otherwise
(R132). -/
def Ladder.staged (l : Ladder) (isl : Island) (r : MeterRecord) (fNom : Nat) : Ladder := { l with
  stageA := if (isl.rCap : Int) ≤ isl.pLoad then l.stageA + 1 else 0
  stageB := if 11 * (isl.rCap : Int) ≤ 10 * isl.pLoad then l.stageB + 1 else 0
  stageF := if r.busValid = true ∧ 100 * r.frequency ≤ 97 * fNom then l.stageF + 1 else 0 }

/-- The ladder with every stage counter at 0 (R132, R133). -/
def Ladder.unstaged (l : Ladder) : Ladder := { l with stageA := 0, stageB := 0, stageF := 0 }

/-- A stage counter stands at its limit (R133). -/
abbrev Ladder.AtLimit (l : Ladder) : Prop := 100 ≤ l.stageA ∨ 20 ≤ l.stageB ∨ 10 ≤ l.stageF

/-- The stage counters work at a record of a card in RUN whose island has capacity (R132). -/
def State.Stages (s : State) (isl : Island) : Prop := s.loader.mode = .run ∧ 0 < isl.rCap

section
variable {s : State} {isl : Island} {r : MeterRecord}

theorem State.stepStages_idle (idle : ¬ s.Stages isl) : s.stepStages isl r = { s with ladder := s.ladder.unstaged } :=
  if_neg fun works => idle ⟨of_decide_eq_true works.1, works.2⟩

/-- At work the counters step, and a limit requests a slow step (R132, R133). -/
theorem State.stepStages_works (works : s.Stages isl) : s.stepStages isl r =
    if (s.ladder.staged isl r s.conf.fNom).AtLimit then
      State.requestStep { s with ladder := s.ladder.unstaged }
    else { s with ladder := s.ladder.staged isl r s.conf.fNom } := by
  have runs : s.inRun = true ∧ 0 < isl.rCap := ⟨decide_eq_true works.1, works.2⟩
  rw [State.stepStages, if_pos runs]
  simp only [stepCount, Bool.and_eq_true, decide_eq_true_eq]
  exact if_congr Iff.rfl rfl rfl

theorem State.stepStages_below (works : s.Stages isl) (below : ¬ (s.ladder.staged isl r s.conf.fNom).AtLimit) :
    s.stepStages isl r = { s with ladder := s.ladder.staged isl r s.conf.fNom } :=
  (State.stepStages_works works).trans (if_neg below)

theorem State.stepStages_limit (works : s.Stages isl) (limit : (s.ladder.staged isl r s.conf.fNom).AtLimit) :
    s.stepStages isl r = State.requestStep { s with ladder := s.ladder.unstaged } :=
  (State.stepStages_works works).trans (if_pos limit)

end

/-! ### The request for a slow step (R133, R134) -/

theorem State.requestStep_free {s : State} (free : s.ladder.inFlight = none) : s.requestStep = s.takeStep := if_pos free

/-- Behind a step in flight the request is held (R133). -/
theorem State.requestStep_busy {s : State} (busy : s.ladder.inFlight ≠ none) :
    s.requestStep = { s with ladder := { s.ladder with held := true } } := if_neg busy

/-- A slow step leaves the stage counters (R134). -/
theorem State.takeStep_stages (s : State) : s.takeStep.ladder.stageA = s.ladder.stageA
    ∧ s.takeStep.ladder.stageB = s.ladder.stageB ∧ s.takeStep.ladder.stageF = s.ladder.stageF := by
  unfold State.takeStep
  split
  · exact ⟨rfl, rfl, rfl⟩
  · split
    · rw [State.commandShed, State.takeShed_ladder]
      exact ⟨rfl, rfl, rfl⟩
    · exact ⟨rfl, rfl, rfl⟩

/-- A request for a slow step leaves the stage counters (R133). -/
theorem State.requestStep_stages (s : State) : s.requestStep.ladder.stageA = s.ladder.stageA
    ∧ s.requestStep.ladder.stageB = s.ladder.stageB ∧ s.requestStep.ladder.stageF = s.ladder.stageF := by
  unfold State.requestStep
  split
  · exact s.takeStep_stages
  · exact ⟨rfl, rfl, rfl⟩

/-! ### The record's way to the counters (R57) -/

/-- The island, the regulator and the set sequencer leave the groups, the ladder and the configuration (R57). -/
theorem State.regulatedRecord_stands (s : State) (d : Nat) (r : MeterRecord) :
    (s.regulatedRecord d r).groups = s.groups ∧ (s.regulatedRecord d r).ladder = s.ladder
      ∧ (s.regulatedRecord d r).loader = s.loader := by
  have frame := (s.workedRecord d r).takeNotice_frame (s.regulated d r).2
  rw [State.regulatedRecord_eq]
  exact ⟨frame .groups (by decide), frame .ladder (by decide), frame .loader (by decide)⟩

/-- Settles O33: the counters read the quantities that the record found, on the ladder as the record found it. -/
theorem stageCountersStepWithTheRecord : Obligations.StageCountersStepWithTheRecord := by
  intro s m d delivers r isl a b f works limit first
  let u := s.regulatedRecord d r
  let w : State := { u with ladder := s.ladder.unstaged }
  obtain ⟨groups, ladder, loader⟩ : u.groups = s.groups ∧ u.ladder = s.ladder ∧ u.loader = s.loader :=
    s.regulatedRecord_stands d r
  have stages : u.Stages isl ↔ works := by rw [State.Stages, loader]
  have stepped : u.ladder.staged isl r u.conf.fNom = s.ladder.staged isl r s.conf.fNom := by
    rw [ladder, State.conf, loader, State.conf]
  have staged : s.stagedRecord d r = u.stepStages isl r := rfl
  have requested (on : works) (full : limit) : u.stepStages isl r = w.requestStep := by
    rw [State.stepStages_limit (stages.2 on) (stepped ▸ full), ladder]
  refine ⟨_, exec_meteringInterval_delivers delivers, ?_⟩
  rw [staged, State.finish_groups]
  refine ⟨fun on below => ?_, fun off => ?_, fun on full => ?_, fun on full free => ?_, fun on full busy => ?_⟩
  · rw [State.stepStages_below (stages.2 on) (stepped ▸ below), stepped]
    exact ⟨groups, State.finish_ladder _⟩
  · rw [State.stepStages_idle (mt stages.1 off), ladder]
    exact ⟨groups, State.finish_ladder _⟩
  · rw [requested on full, State.finish_ladder]
    exact w.requestStep_stages
  · have step : w.SlowStep w.takeStep first := State.takeStep_first (s := w) free
    rw [requested on full, State.requestStep_free (s := w) free]
    exact ⟨(step.before groups.symm rfl).finish,
      (congrArg Ladder.held (State.finish_ladder _)).trans w.takeStep_keeps.2⟩
  · rw [requested on full, State.requestStep_busy (s := w) busy]
    exact ⟨groups, State.finish_ladder _⟩

end Sys2Proof.Machine
end

section
/-! The restore check (R114, R131, R141 to R143): the island action age, the guards, the candidate, and what a restore
command does at its channel. -/

namespace Sys2Proof.Machine

/-! ### The island action age (R131) -/

/-- The action age that a LIVE or STALE member other than the own station reports (R131). -/
def State.reportedAge (s : State) (i : Station) : Option Nat :=
  if i ≠ s.own ∧ (s.entry i).state.offered then (s.entry i).record.map (·.actionAge) else none

/-- The own action age and those that the members report (R131). -/
def State.actionAges (s : State) : List Nat := s.ladder.actionAge :: s.island.members.filterMap s.reportedAge

theorem State.mem_actionAges (s : State) (a : Nat) : a ∈ s.actionAges ↔ a = s.ladder.actionAge
    ∨ ∃ i r, i ∈ s.island.members ∧ i ≠ s.own ∧ ((s.entry i).state = .live ∨ (s.entry i).state = .stale)
      ∧ (s.entry i).record = some r ∧ a = r.actionAge := by
  simp only [State.actionAges, List.mem_cons, List.mem_filterMap, State.reportedAge, Option.ite_none_right_eq_some,
    Option.map_eq_some_iff, EntryState.offered_iff]
  refine or_congr_right ⟨?_, ?_⟩
  · rintro ⟨i, member, ⟨peer, heard⟩, r, record, rfl⟩
    exact ⟨i, r, member, peer, heard, record, rfl⟩
  · rintro ⟨i, r, member, peer, heard, record, rfl⟩
    exact ⟨i, member, ⟨peer, heard⟩, r, record, rfl⟩

theorem State.min_actionAges (s : State) : s.actionAges.min? = some s.islandActionAge := by
  rw [State.actionAges, List.min?_cons', List.foldl_filterMap, State.islandActionAge]
  refine congrArg some (congrArg (fun f => List.foldl f s.ladder.actionAge s.island.members) ?_)
  funext age i
  by_cases offers : i ≠ s.own ∧ (s.entry i).state.offered = true
  · simp only [State.reportedAge, if_pos offers]
    cases (s.entry i).record <;> rfl
  · simp only [State.reportedAge, if_neg offers]

/-- The island action age is the least of the ages (R131). -/
theorem State.islandActionAge_least (s : State) :
    IsLeast {a | a = s.ladder.actionAge ∨ ∃ i r, i ∈ s.island.members ∧ i ≠ s.own
      ∧ ((s.entry i).state = .live ∨ (s.entry i).state = .stale) ∧ (s.entry i).record = some r ∧ a = r.actionAge}
      s.islandActionAge := by
  obtain ⟨reported, least⟩ := List.min?_eq_some_iff.1 s.min_actionAges
  exact ⟨(s.mem_actionAges _).1 reported, fun a held => least a ((s.mem_actionAges a).2 held)⟩

/-! ### The guards and the candidate (R141, R142) -/

/-- The six guards of the restore check hold (R141). -/
def State.RestorePasses (s : State) : Prop :=
  s.ladder.stageA = 0 ∧ s.ladder.stageB = 0 ∧ s.ladder.stageF = 0 ∧ s.ladder.inFlight = none
    ∧ 100 ≤ s.islandActionAge
    ∧ (∀ i ∈ s.island.members, s.memberState i ≠ some .starting ∧ s.memberState i ≠ some .loading)
    ∧ (∀ c ∈ s.islandClaims, c.state ≠ .claiming ∧ c.state ≠ .waiting) ∧ 0 < s.island.rCap

/-- The guards that a restore check finds failed (R141). -/
def State.failedNow (s : State) : List Guard := Guard.all.filter (fun g => !s.guardHolds s.islandActionAge g)

theorem State.memberIn_starting (s : State) : s.memberIn [.starting, .loading] = false
    ↔ ∀ i ∈ s.island.members, s.memberState i ≠ some .starting ∧ s.memberState i ≠ some .loading := by
  simp [s.memberIn_false]

theorem State.claimIn_claiming (s : State) : s.claimIn [.claiming, .waiting] = false
    ↔ ∀ c ∈ s.islandClaims, c.state ≠ .claiming ∧ c.state ≠ .waiting := by
  simp [State.claimIn]

/-- No guard has failed where all six hold (R141). -/
theorem State.failedNow_eq_nil (s : State) : s.failedNow = [] ↔ s.RestorePasses := by
  simp [State.failedNow, List.filter_eq_nil_iff, Guard.all, State.guardHolds, State.RestorePasses,
    ← s.memberIn_starting, ← s.claimIn_claiming, and_assoc]

theorem Ladder.restoreCandidate_eq (l : Ladder) : l.restoreCandidate
    = l.entries.reverse.find? (fun e => decide (e.state = .shed ∧ e.owner ≠ .stale)) := by
  have same : (fun e : LadderEntry => e.state == .shed && e.owner != .stale)
      = fun e => decide (e.state = .shed ∧ e.owner ≠ .stale) := by
    funext e
    by_cases state : e.state = .shed <;> by_cases owner : e.owner = .stale <;> simp [state, owner]
  rw [Ladder.restoreCandidate, same]

theorem State.candidateNow_passes {s : State} (passes : s.RestorePasses) :
    s.candidateNow s.failedNow = s.ladder.restoreCandidate := by
  simp [State.candidateNow, s.failedNow_eq_nil.2 passes]

theorem State.candidateNow_fails {s : State} (fails : ¬ s.RestorePasses) : s.candidateNow s.failedNow = none := by
  simp [State.candidateNow, mt s.failedNow_eq_nil.1 fails]

theorem Island.restoreFits_iff (isl : Island) (e : LadderEntry) :
    isl.restoreFits e = true ↔ (isl.pLoad + e.nominal) * 10000 ≤ 8500 * (isl.rCap : Int) := decide_eq_true_iff

/-! ### A restore command (R114, R143) -/

/-- A group that is not SHED, or one of a card whose close spacing timer runs, takes no restore command (R114). -/
theorem State.takeRestore_refused {s : State} {i : Fin 6}
    (refused : (s.channel i).state ≠ some .shed ∨ s.groups.closeSpacing ≠ none) : s.takeRestore i = s :=
  if_neg fun takes => refused.elim (· takes.1) (· takes.2)

/-- The window and the CLOSE pulse of a restore command, at a group whose state has just been set (R114, R116). -/
theorem State.startWindow_startClose {u : State} {i : Fin 6} {c : Channel} (set : u.channel i = c) :
    ((u.startWindow i).startClose i).channel i
        = { c with window := some (u.now + 500000), close := some (u.now + 200000) }
      ∧ ((u.startWindow i).startClose i).groups.closeSpacing = some (u.now + 10000000) := by
  have window : (u.startWindow i).channel i = { c with window := some (u.now + 500000) } := by
    simp [State.startWindow, set, State.after, confirmationTime, ms]
  rw [State.startClose, window]
  exact ⟨State.channel_setChannel (u.startWindow i) i _, rfl⟩

/-- A SHED group that takes a restore command is RESTORE_PENDING with its window and its CLOSE pulse running, and the
close spacing timer starts (R114, R116). -/
theorem State.takeRestore_channel {s : State} {i : Fin 6} (shed : (s.channel i).state = some .shed)
    (free : s.groups.closeSpacing = none) :
    (s.takeRestore i).channel i = { s.channel i with
        state := some .restorePending, window := some (s.now + 500000), close := some (s.now + 200000) }
      ∧ (s.takeRestore i).groups.closeSpacing = some (s.now + 10000000) := by
  have takes : s.takeRestore i = ((s.setGroupState i .restorePending).startWindow i).startClose i :=
    if_pos ⟨shed, free⟩
  have set : (s.setGroupState i .restorePending).channel i = { s.channel i with state := some .restorePending } := by
    simp only [State.channel, State.setGroupState_groups]
    exact State.channel_setChannel s i _
  simpa only [takes, State.setGroupState_now] using State.startWindow_startClose set

/-- A restore command to one group leaves every other as it was. -/
theorem State.takeRestore_channel_ne (s : State) {i j : Fin 6} (other : j ≠ i) :
    (s.takeRestore i).channel j = s.channel j := by
  unfold State.takeRestore
  split
  · have set : (s.setGroupState i .restorePending).channel j = s.channel j := by
      simp only [State.channel, State.setGroupState_groups]
      exact State.channel_setChannel_ne s _ other.symm
    have window : ((s.setGroupState i .restorePending).startWindow i).channel j = s.channel j :=
      (State.channel_setChannel_ne _ _ other.symm).trans set
    exact (State.channel_setChannel_ne _ _ other.symm).trans window
  · rfl

/-- Of the ladder a restore command at a channel rewrites the entries alone. -/
theorem State.takeRestore_ladder (s : State) (i : Fin 6) :
    (s.takeRestore i).ladder = { s.ladder with entries := (s.takeRestore i).ladder.entries } := by
  unfold State.takeRestore
  split
  · obtain ⟨-, -, -, ladder, -⟩ := State.setGroupState_requested s i .restorePending
    exact ladder
  · rfl

/-! ### The check (R141, R142) -/

/-- The card once a restore check has found what it keeps: the age, the failed guards and the candidate (R141, R142). -/
def State.checked (s : State) : State := { s with ladder := { s.ladder with
  islandAge := s.islandActionAge, failedGuards := s.failedNow
  candidate := (s.candidateNow s.failedNow).map LadderEntry.key } }

section
variable {s : State}

/-- A check commands the restore of an own candidate that fits (R142). -/
theorem State.restoreCheck_commands {e : LadderEntry} (found : s.candidateNow s.failedNow = some e)
    (own : e.owner = .own) (fits : s.island.restoreFits e = true) :
    s.restoreCheck = s.checked.commandRestore e.index := by
  have checks : s.restoreCheck = if s.island.restoreFits e ∧ e.owner = .own then s.checked.commandRestore e.index
      else s.checked := by
    unfold State.restoreCheck
    dsimp only
    split
    · next none => exact nomatch found.symm.trans none
    · next other some =>
      obtain rfl := Option.some.inj (found.symm.trans some)
      rfl
  rw [checks, if_pos ⟨fits, own⟩]

/-- Every other check restores nothing (R142). -/
theorem State.restoreCheck_rests
    (rests : ∀ e, s.candidateNow s.failedNow = some e → e.owner ≠ .own ∨ ¬ s.island.restoreFits e = true) :
    s.restoreCheck = s.checked := by
  unfold State.restoreCheck
  dsimp only
  split
  · rfl
  · next e found => exact if_neg fun commands => (rests e found).elim (· commands.2) (· commands.1)

end

/-- A check keeps what it found, and no more than commands one restore (R141, R142). -/
theorem State.restoreCheck_cases (s : State) :
    s.restoreCheck = s.checked ∨ ∃ i, s.restoreCheck = s.checked.commandRestore i := by
  by_cases own : ∃ e, s.candidateNow s.failedNow = some e ∧ e.owner = .own ∧ s.island.restoreFits e = true
  · obtain ⟨e, found, own, fits⟩ := own
    exact .inr ⟨e.index, State.restoreCheck_commands found own fits⟩
  · exact .inl (State.restoreCheck_rests fun e found => not_and_or.1 fun fit => own ⟨e, found, fit⟩)

/-- A check moves a group by a restore command alone (R142, R143). -/
theorem State.restoreCheck_moves (s : State) : s.MovedGroups s.restoreCheck := by
  have finds : s.MovedGroups s.checked := .ladder s _
  rcases s.restoreCheck_cases with rests | ⟨i, commands⟩
  · rwa [rests]
  · rw [commands]
    exact finds.trans (State.commandRestore_moves _ i)

/-- What a check keeps of what it found stands after its command, and so does the restore timer (R141 to R143). -/
theorem State.restoreCheck_ladder (s : State) :
    s.restoreCheck.ladder.restoreTimer = s.ladder.restoreTimer
      ∧ s.restoreCheck.ladder.islandAge = s.islandActionAge ∧ s.restoreCheck.ladder.failedGuards = s.failedNow
      ∧ s.restoreCheck.ladder.candidate = (s.candidateNow s.failedNow).map LadderEntry.key := by
  rcases s.restoreCheck_cases with rests | ⟨i, commands⟩
  · rw [rests]
    exact ⟨rfl, rfl, rfl, rfl⟩
  · rw [commands, State.commandRestore, State.takeRestore_ladder]
    exact ⟨rfl, rfl, rfl, rfl⟩

/-- A restore command makes the own action age 0 and starts its count timer afresh (R130, R143). -/
theorem State.commandRestore_age (s : State) (i : Fin 6) : (s.commandRestore i).ladder.actionAge = 0
    ∧ (s.commandRestore i).ladder.ageTimer = some (s.now + 100000) := by
  rw [State.commandRestore, State.takeRestore_ladder]
  exact ⟨rfl, rfl⟩

/-! ### RESTORE_CHECK (R141) -/

/-- The card at its restore check: the restore timer has started again (R141). -/
def State.atRestoreCheck (s : State) (d : Nat) : State :=
  { s.advanceTo d with ladder := { s.ladder with restoreTimer := some (max s.now d + 1000000) } }

theorem exec_restoreCheck {s : State} {d : Nat} (awake : s.Awake) (runs : s.ladder.restoreTimer = some d) :
    exec .restoreCheck s = .next (s.atRestoreCheck d).restoreCheck.finish := by
  show execRestoreCheck s = _
  rw [execRestoreCheck, onExpiry_of awake runs]
  rfl

/-- Settles O47: the guards decide whether there is a candidate, and the candidate whether there is a command. -/
theorem restoreCheckRestoresTheLast : Obligations.RestoreCheckRestoresTheLast := by
  intro s d awake runs pass candidate fits
  let v := s.atRestoreCheck d
  let t := v.restoreCheck.finish
  obtain ⟨timer, age, failed, key⟩ := v.restoreCheck_ladder
  have now : t.now = v.now := (State.finish_now _).trans (v.restoreCheck_within .clock (by decide))
  have groups : t.groups = v.restoreCheck.groups := State.finish_groups _
  have channel (j : Fin 6) : t.channel j = v.restoreCheck.channel j := by simp only [State.channel, groups]
  have passes : v.RestorePasses ↔ pass := Iff.rfl
  have chosen (ok : pass) : v.candidateNow v.failedNow = candidate :=
    (State.candidateNow_passes (passes.2 ok)).trans v.ladder.restoreCandidate_eq
  have moves : (s.advanceTo d).MovedGroups v.restoreCheck := (State.MovedGroups.ladder _ _).trans v.restoreCheck_moves
  refine ⟨s.islandActionAge_least, t, exec_restoreCheck awake runs, moves.followed rfl rfl rfl, ?_, ?_, fun no => ?_,
    fun ok => ⟨?_, ?_⟩, fun e ok found own fit => ?_, fun rests => ?_⟩
  · rw [now, State.finish_ladder]
    exact timer
  · rw [State.finish_ladder]
    exact age
  · rw [State.finish_ladder]
    exact key.trans (by rw [State.candidateNow_fails (mt passes.1 no)]; rfl)
  · rw [State.finish_ladder]
    exact failed.trans (v.failedNow_eq_nil.2 (passes.2 ok))
  · rw [State.finish_ladder]
    exact key.trans (by rw [chosen ok])
  · have commands : v.restoreCheck = v.checked.commandRestore e.index :=
      State.restoreCheck_commands ((chosen ok).trans found) own ((Island.restoreFits_iff _ _).2 fit)
    obtain ⟨zero, ticks⟩ := v.checked.commandRestore_age e.index
    rw [now, State.finish_ladder, groups]
    simp only [channel]
    rw [commands]
    refine ⟨zero, ticks, fun j => State.takeRestore_channel_ne _,
      State.takeRestore_channel (s := v.checked.resetAge), fun refused => ?_⟩
    rw [State.commandRestore, State.takeRestore_refused (s := v.checked.resetAge) refused]
    rfl
  · have still : v.restoreCheck = v.checked := by
      refine State.restoreCheck_rests fun e found => ?_
      by_cases ok : pass
      · exact ((rests.resolve_left (not_not_intro ok)) e ((chosen ok).symm.trans found)).imp_right
          (mt (Island.restoreFits_iff _ _).1)
      · exact nomatch (State.candidateNow_fails (mt passes.1 ok)).symm.trans found
    rw [groups, State.finish_ladder, still]
    exact ⟨rfl, rfl⟩

end Sys2Proof.Machine
end

section
/-! Own claims rewritten by an event (Section 9): what a change of an own claim asks of the composer (R15), and the window,
the waiting timer and the hold timer (R153, R155, R156, R158). -/

namespace Sys2Proof.Machine

/-! ### Own claims moved within one event (R15) -/

/-- Between `s` and `t` an own claim that is listed before or after the change has changed its state (R15). -/
def State.ClaimReported (s t : State) : Prop :=
  ∃ n, (t.claim n).state ≠ (s.claim n).state ∧ ((s.claim n).state.listed ≠ none ∨ (t.claim n).state.listed ≠ none)

/-- As `State.Requested`, where the own claims and what a fit test keeps may have moved too: a change that is reported has
made an urgent request, and without one there is no request (R15). The re-test timer stands. -/
def State.MovedClaims (s t : State) : Prop :=
  State.Requested { s with admission := t.admission } t ∧ t.admission.retest = s.admission.retest
    ∧ (s.ClaimReported t → t.composer.waiting = s.urgentWaiting)
    ∧ (¬ s.ClaimReported t → t.composer.waiting = s.composer.waiting)

/-- The end of an event that has moved own claims alone of what is reported at once (R15, R16). -/
theorem State.MovedClaims.followed {s b t : State} (moved : b.MovedClaims t) (seq : b.seq = s.seq)
    (groups : b.groups = s.groups) (claims : b.admission.claims = s.admission.claims) :
    s.Followed { b with admission := t.finish.admission } t.finish := by
  obtain ⟨requested, -, reports, rests⟩ := moved
  have urges : s.Urges { b with admission := t.admission } ↔ b.ClaimReported t := by
    simp [State.Urges, State.ClaimReported, State.channel, State.claim, seq, groups, claims]
  rw [State.finish_admission]
  by_cases reported : b.ClaimReported t
  · exact requested.followed_urgent (urges.2 reported) (reports reported)
  · exact requested.followed_plain (mt urges.1 reported) (rests reported)

/-- From `s` to `t` the claim of one channel has become `x`, and the other claim stands. -/
def State.ClaimBecomes (s t : State) (n : Fin 2) (x : Claim) : Prop :=
  s.MovedClaims t ∧ t.claim n = x ∧ ∀ k, k ≠ n → t.claim k = s.claim k

theorem State.claimReported_iff {s t : State} {n : Fin 2} (others : ∀ k, k ≠ n → t.claim k = s.claim k) :
    s.ClaimReported t ↔ (t.claim n).state ≠ (s.claim n).state
      ∧ ((s.claim n).state.listed ≠ none ∨ (t.claim n).state.listed ≠ none) := by
  refine ⟨fun ⟨k, changed, listed⟩ => ?_, fun reported => ⟨n, reported⟩⟩
  by_cases same : k = n
  · exact same ▸ ⟨changed, listed⟩
  · exact absurd (congrArg Claim.state (others k same)) changed

/-- A claim rewritten without a change of its state asks for nothing (R15, log entry 7). -/
theorem State.setClaim_becomes {s : State} {n : Fin 2} {c : Claim} (state : c.state = (s.claim n).state) :
    s.ClaimBecomes (s.setClaim n c) n c := by
  have others (k : Fin 2) (other : k ≠ n) : (s.setClaim n c).claim k = s.claim k :=
    State.claim_setClaim_ne s c other.symm
  have unreported : ¬ s.ClaimReported (s.setClaim n c) := fun reported => by
    obtain ⟨changed, -⟩ := (State.claimReported_iff others).1 reported
    exact changed (by rw [State.claim_setClaim, state])
  exact ⟨⟨.refl (s.setClaim n c), rfl, fun reported => absurd reported unreported, fun _ => rfl⟩,
    State.claim_setClaim s n c, others⟩

/-- A change of a claim's state is an urgent request where the claim is listed before or after it (R15). -/
theorem State.setClaimState_becomes {s : State} {n : Fin 2} {c : Claim}
    (moves : c.state ≠ (s.claim n).state ∨ (s.claim n).state.listed = none ∧ c.state.listed = none) :
    s.ClaimBecomes (s.setClaimState n c) n c := by
  have requested := s.setClaimState_requested n c
  have admission : (s.setClaimState n c).admission = (s.setClaim n c).admission := requested.1 .admission (by decide)
  have claim (k : Fin 2) : (s.setClaimState n c).claim k = (s.setClaim n c).claim k := by
    simp only [State.claim, admission]
  have others (k : Fin 2) (other : k ≠ n) : (s.setClaimState n c).claim k = s.claim k :=
    (claim k).trans (State.claim_setClaim_ne s c other.symm)
  have becomes : (s.setClaimState n c).claim n = c := (claim n).trans (State.claim_setClaim s n c)
  have waits := s.setClaimState_waiting n c
  have reported : s.ClaimReported (s.setClaimState n c)
      ↔ (s.claim n).state.listed.isSome ∨ c.state.listed.isSome := by
    rw [State.claimReported_iff others, becomes]
    simp only [Option.isSome_iff_ne_none]
    tauto
  refine ⟨⟨?_, by rw [admission]; rfl, fun yes => ?_, fun no => ?_⟩, becomes, others⟩
  · rw [admission]
    exact requested
  · simpa only [State.urgentWaiting, reported.1 yes, and_true] using waits
  · simpa only [mt reported.2 no, and_false, if_false] using waits

/-- What a fit test keeps moves no claim (R161). -/
theorem State.ClaimBecomes.of_noteFit {s t : State} {n : Fin 2} {x : Claim} {c : IslandClaim}
    (becomes : (s.noteFit c).ClaimBecomes t n x) : s.ClaimBecomes t n x := becomes

/-- A claim changed after it has been rewritten without a change of its state. -/
theorem State.ClaimBecomes.of_setClaim {s t : State} {n : Fin 2} {c x : Claim}
    (becomes : (s.setClaim n c).ClaimBecomes t n x) (state : c.state = (s.claim n).state) : s.ClaimBecomes t n x := by
  obtain ⟨⟨requested, retest, reports, rests⟩, claim, others⟩ := becomes
  have stands (k : Fin 2) (other : k ≠ n) : t.claim k = s.claim k :=
    (others k other).trans (State.claim_setClaim_ne s c other.symm)
  have reported : s.ClaimReported t ↔ (s.setClaim n c).ClaimReported t := by
    rw [State.claimReported_iff stands, State.claimReported_iff others, State.claim_setClaim, state]
  exact ⟨⟨requested, retest, fun yes => reports (reported.1 yes), fun no => rests (mt reported.2 no)⟩, claim, stands⟩

/-- An event reported to the alarm list moves no claim (R177). -/
theorem State.ClaimBecomes.raise {s t : State} {n : Fin 2} {x : Claim} (becomes : s.ClaimBecomes t n x) (k : AlarmKind) :
    s.ClaimBecomes (t.raise k) n x := by
  obtain ⟨⟨requested, retest, reports, rests⟩, claim, others⟩ := becomes
  exact ⟨⟨requested.trans (t.raise_requested k), retest, reports, rests⟩, claim, others⟩

/-- The end of an event that has moved one own claim (R15, R16). -/
theorem State.ClaimBecomes.finish {s b t : State} {n : Fin 2} {x : Claim} (becomes : b.ClaimBecomes t n x)
    (seq : b.seq = s.seq) (groups : b.groups = s.groups) (admission : b.admission = s.admission) :
    t.finish.claim n = x ∧ (∀ k, k ≠ n → t.finish.claim k = s.claim k)
      ∧ t.finish.admission.retest = s.admission.retest
      ∧ s.Followed { b with admission := t.finish.admission } t.finish := by
  obtain ⟨moved, claim, others⟩ := becomes
  have stands (k : Fin 2) : t.finish.claim k = t.claim k := by simp only [State.claim, State.finish_admission]
  have before (k : Fin 2) : b.claim k = s.claim k := by simp only [State.claim, admission]
  refine ⟨(stands n).trans claim, fun k other => (stands k).trans ((others k other).trans (before k)), ?_,
    moved.followed seq groups (congrArg _ admission)⟩
  rw [State.finish_admission, moved.2.1, admission]

/-! ### The states a claim enters (R152, R153, R155) -/

theorem State.toClaiming_becomes {s : State} {n : Fin 2} (enters : (s.claim n).state ≠ .claiming) :
    s.ClaimBecomes (s.toClaiming n) n
      { s.claim n with state := .claiming, window := some (s.now + 300000) } :=
  State.setClaimState_becomes (.inl enters.symm)

theorem State.toWaiting_becomes {s : State} {n : Fin 2} (enters : (s.claim n).state ≠ .waiting) :
    s.ClaimBecomes (s.toWaiting n) n { s.claim n with state := .waiting, window := none, waiting :=
      (if (s.claim n).waiting = none then some (s.now + 120000000) else (s.claim n).waiting) } := by
  have timer : (if (s.claim n).waiting = none then some (s.now + 120000000) else (s.claim n).waiting)
      = (s.claim n).waiting.or (s.after waitingTime) := by
    cases (s.claim n).waiting <;> rfl
  rw [timer]
  exact State.setClaimState_becomes (.inl enters.symm)

theorem State.toGranted_becomes {s : State} {n : Fin 2} (enters : (s.claim n).state ≠ .granted) :
    s.ClaimBecomes (s.toGranted n) n { s.claim n with
      state := .granted, window := none, waiting := none, outOfTime := false, hold := some (s.now + 30000000)
      grant := true } :=
  State.setClaimState_becomes (.inl enters.symm)

/-- A refused claim is reported to the alarm list too (R153, R155, R177). -/
theorem State.toRefused_becomes {s : State} {n : Fin 2} (enters : (s.claim n).state ≠ .refused) :
    s.ClaimBecomes (s.toRefused n) n
        { s.claim n with state := .refused, window := none, waiting := none, outOfTime := false }
      ∧ .claimRefused ∈ (s.toRefused n).finish.alarms.latched :=
  ⟨(State.setClaimState_becomes (.inl enters.symm)).raise .claimRefused,
    State.finish_latches _ _ ((State.mem_raise _ _ _).2 (.inr rfl))⟩

/-! ### The end of the window (R153) -/

section
variable {s : State} {n : Fin 2} {own : IslandClaim}

theorem State.judgeWindow_grants (listed : s.ownIslandClaim n = some own)
    (passes : s.linkOk = true ∧ s.fits own = true) : s.judgeWindow n = (s.noteFit own).toGranted n := by
  obtain ⟨link, fits⟩ := passes
  have ok : (s.noteFit own).linkOk = true := link
  simp [State.judgeWindow, listed, fits, ok]

theorem State.judgeWindow_fails (listed : s.ownIslandClaim n = some own)
    (fails : ¬ (s.linkOk = true ∧ s.fits own = true)) : s.judgeWindow n =
      if (s.claim n).outOfTime = true then (s.noteFit own).toRefused n else (s.noteFit own).toWaiting n := by
  have no : ((s.noteFit own).linkOk && s.fits own) = false := by
    rw [← Bool.not_eq_true, Bool.and_eq_true]
    exact fails
  simp only [State.judgeWindow, listed, no, Bool.false_eq_true, if_false]
  rfl

theorem State.judgeWindow_waits (listed : s.ownIslandClaim n = some own)
    (fails : ¬ (s.linkOk = true ∧ s.fits own = true)) (inTime : (s.claim n).outOfTime = false) :
    s.judgeWindow n = (s.noteFit own).toWaiting n := by
  rw [State.judgeWindow_fails listed fails, inTime]
  rfl

theorem State.judgeWindow_refuses (listed : s.ownIslandClaim n = some own)
    (fails : ¬ (s.linkOk = true ∧ s.fits own = true)) (late : (s.claim n).outOfTime = true) :
    s.judgeWindow n = (s.noteFit own).toRefused n := by
  rw [State.judgeWindow_fails listed fails, if_pos late]

end

theorem exec_claimWindowExpiry {s : State} {n : Fin 2} {d : Nat} (awake : s.Awake)
    (claiming : (s.claim n).state = .claiming) (runs : (s.claim n).window = some d) :
    exec (.claimWindowExpiry n) s = .next ((s.advanceTo d).judgeWindow n).finish := by
  show execClaimWindowExpiry n s = _
  rw [execClaimWindowExpiry, if_pos claiming, onExpiry_of awake runs]

/-! ### The waiting timer and the hold timer (R155, R156) -/

theorem exec_waitingTimerExpiry {s : State} {n : Fin 2} {d : Nat} (awake : s.Awake)
    (runs : (s.claim n).waiting = some d) :
    exec (.waitingTimerExpiry n) s = .next ((s.advanceTo d).waitedOut n).finish := by
  show execWaitingTimerExpiry n s = _
  rw [execWaitingTimerExpiry, onExpiry_of awake runs]

theorem exec_holdTimerExpiry {s : State} {n : Fin 2} {d : Nat} (awake : s.Awake)
    (granted : (s.claim n).state = .granted) (runs : (s.claim n).hold = some d) :
    exec (.holdTimerExpiry n) s = .next
      ((s.advanceTo d).setClaimState n { s.claim n with state := .consuming, hold := none }).finish := by
  show execHoldTimerExpiry n s = _
  rw [execHoldTimerExpiry, if_pos granted, onExpiry_of awake runs]
  rfl

/-- A claim that has waited 120 s is refused (R155). -/
theorem State.waitedOut_waiting {s : State} {n : Fin 2} (waiting : (s.claim n).state = .waiting) :
    s.ClaimBecomes (s.waitedOut n) n
        { s.claim n with state := .refused, window := none, waiting := none, outOfTime := false }
      ∧ .claimRefused ∈ (s.waitedOut n).finish.alarms.latched := by
  have refuses : s.waitedOut n = (s.setClaim n { s.claim n with waiting := none }).toRefused n := by
    simp [State.waitedOut, waiting]
  obtain ⟨becomes, latched⟩ := State.toRefused_becomes (s := s.setClaim n { s.claim n with waiting := none }) (n := n)
    (by simp [waiting])
  rw [State.claim_setClaim] at becomes
  rw [refuses]
  exact ⟨becomes.of_setClaim rfl, latched⟩

/-- A claim whose waiting timer expires in its window gets its out-of-time mark (R155). -/
theorem State.waitedOut_claiming {s : State} {n : Fin 2} (claiming : (s.claim n).state = .claiming) :
    s.ClaimBecomes (s.waitedOut n) n { s.claim n with waiting := none, outOfTime := true } := by
  have marks : s.waitedOut n = (s.setClaim n { s.claim n with waiting := none }).setClaim n
      { s.claim n with waiting := none, outOfTime := true } := by
    simp [State.waitedOut, claiming]
  rw [marks]
  exact (State.setClaim_becomes (by rw [State.claim_setClaim])).of_setClaim rfl

/-- Settles O49: each timer leads to one rewrite of its claim. -/
theorem claimTimersJudgeTheClaim : Obligations.ClaimTimersJudgeTheClaim := by
  intro s n d awake c becomes
  let v := s.advanceTo d
  have ends {t : State} {x : Claim} (rewrites : v.ClaimBecomes t n x) : becomes t.finish x :=
    rewrites.finish rfl rfl rfl
  refine ⟨fun own claiming runs listed => ?window, fun runs => ?waiting, fun granted runs => ?hold⟩
  case window =>
    have listed' : v.ownIslandClaim n = some own := listed
    have unlike {st : ClaimState} (other : ClaimState.claiming ≠ st) : ((v.noteFit own).claim n).state ≠ st :=
      ne_of_eq_of_ne claiming other
    have now : (v.judgeWindow n).finish.now = v.now :=
      (State.finish_now _).trans (v.judgeWindow_frame n .clock (by decide))
    refine ⟨_, exec_claimWindowExpiry awake claiming runs, fun yes => ?_, fun no inTime => ?_, fun no late => ?_⟩
    · rw [now, State.judgeWindow_grants listed' yes]
      exact ends (State.toGranted_becomes (unlike nofun)).of_noteFit
    · rw [now, State.judgeWindow_waits listed' no inTime]
      exact ends (State.toWaiting_becomes (unlike nofun)).of_noteFit
    · rw [State.judgeWindow_refuses listed' no late]
      obtain ⟨refused, latched⟩ := State.toRefused_becomes (s := v.noteFit own) (n := n) (unlike nofun)
      exact ⟨latched, ends refused.of_noteFit⟩
  case waiting =>
    refine ⟨_, exec_waitingTimerExpiry awake runs, fun waiting => ?_, fun claiming => ?_⟩
    · obtain ⟨refused, latched⟩ := State.waitedOut_waiting (s := v) waiting
      exact ⟨latched, ends refused⟩
    · exact ends (State.waitedOut_claiming (s := v) claiming)
  case hold =>
    exact ⟨_, exec_holdTimerExpiry awake granted runs, ends (State.setClaimState_becomes (.inl (by
      show ClaimState.consuming ≠ (s.claim n).state
      rw [granted]
      exact nofun)))⟩

end Sys2Proof.Machine
end

section
/-! The REQUEST edges (R147 to R152, R157): the fit test in the words of the manual, and the opening and the withdrawal of an
own claim. -/

namespace Sys2Proof.Machine

/-! ### The fit test (R148 to R151) -/

/-- The headroom must hold a claim's demand and those of the CLAIMING and GRANTED claims ahead of it (R151). -/
theorem State.needed_eq (s : State) (c : IslandClaim) : s.needed c = c.demand + ((s.islandClaims.filter (fun d =>
    decide (¬ (d.station = c.station ∧ d.index = c.index) ∧ d.state ≠ .waiting) && d.ahead c)).map (·.demand)).sum := by
  have both : (fun d : IslandClaim => (d.state != .waiting && d.ahead c)
        && decide (¬ (d.station = c.station ∧ d.index = c.index)))
      = fun d => decide (¬ (d.station = c.station ∧ d.index = c.index) ∧ d.state ≠ .waiting) && d.ahead c := by
    funext d
    rw [Bool.eq_iff_iff]
    simp only [Bool.and_eq_true, bne_iff_ne, decide_eq_true_eq]
    tauto
  rw [State.needed, State.otherClaims, List.filter_filter, both]

theorem State.fits_iff (s : State) (c : IslandClaim) : s.fits c = true ↔ (s.needed c : Int) ≤ s.headroomNow :=
  decide_eq_true_iff

/-! ### The opening of a claim (R147, R152) -/

/-- A claim changed after it has started its age (R152). -/
theorem State.ClaimBecomes.of_startClaim {s t : State} {n : Fin 2} {x : Claim} {c : IslandClaim}
    (becomes : (s.startClaim n c).ClaimBecomes t n x) : s.ClaimBecomes t n x :=
  State.ClaimBecomes.of_noteFit (State.ClaimBecomes.of_setClaim (s := s.noteFit c) becomes rfl)

/-- The own claim of a channel that opens, as its fit test counts it (R152). -/
def State.opening (s : State) (n : Fin 2) (w : Nat) : IslandClaim :=
  { station := s.own, index := n, state := .claiming, demand := w, age := 0 }

section
variable {s : State} {n : Fin 2} {w : Nat} (demand : s.demand n = some w) (idle : s.claim n = Claim.reset)
include demand idle

theorem State.takeRequest_idle : s.takeRequest n =
    if (s.linkOk && s.fits (s.opening n w)) = true then (s.startClaim n (s.opening n w)).toClaiming n
    else (s.startClaim n (s.opening n w)).toWaiting n := by
  have state : (s.claim n).state = .idle := congrArg _ idle
  simp only [State.takeRequest, demand, state]
  rfl

omit demand in
theorem State.startClaim_idle (c : IslandClaim) :
    (s.startClaim n c).claim n = { Claim.reset with ageTimer := some (s.now + 100000) } := by
  rw [State.startClaim, State.claim_setClaim, idle]
  rfl

/-- A claim that fits opens in CLAIMING, its window running (R152). -/
theorem State.takeRequest_fits (passes : s.linkOk = true ∧ s.fits (s.opening n w) = true) :
    s.ClaimBecomes (s.takeRequest n) n { Claim.reset with
      state := .claiming, ageTimer := some (s.now + 100000), window := some (s.now + 300000) } := by
  have claim := State.startClaim_idle idle (s.opening n w)
  have becomes := State.toClaiming_becomes (s := s.startClaim n (s.opening n w)) (n := n) (by rw [claim]; nofun)
  rw [claim] at becomes
  rw [State.takeRequest_idle demand idle, if_pos (by simpa using passes)]
  exact becomes.of_startClaim

/-- Any other opens in WAITING, its waiting timer running (R152). -/
theorem State.takeRequest_waits (fails : ¬ (s.linkOk = true ∧ s.fits (s.opening n w) = true)) :
    s.ClaimBecomes (s.takeRequest n) n { Claim.reset with
      state := .waiting, ageTimer := some (s.now + 100000), waiting := some (s.now + 120000000) } := by
  have claim := State.startClaim_idle idle (s.opening n w)
  have becomes := State.toWaiting_becomes (s := s.startClaim n (s.opening n w)) (n := n) (by rw [claim]; nofun)
  rw [claim] at becomes
  rw [State.takeRequest_idle demand idle, if_neg (by simpa using fails)]
  exact becomes.of_startClaim

end

/-! ### The edges (R152, R157) -/

theorem exec_requestRising {s : State} {n : Fin 2} (awake : s.Awake) (run : s.loader.mode = .run)
    (edge : s.pins.request[n] = false) :
    exec (.requestRising n) s = .next ((s.setRequestPin n true).takeRequest n).finish := by
  have taken : (s.setRequestPin n true).awake = true ∧ (s.setRequestPin n true).inRun = true :=
    ⟨State.Awake.awake awake, decide_eq_true run⟩
  exact (if_neg (ne_true_of_eq_false edge)).trans (congrArg _ (if_pos taken))

theorem exec_requestFalling {s : State} {n : Fin 2} {w : Nat} (awake : s.Awake) (demand : s.demand n = some w)
    (edge : s.pins.request[n] = true) :
    exec (.requestFalling n) s = .next ((s.setRequestPin n false).withdraw n).finish := by
  have taken : (s.setRequestPin n false).awake = true ∧ ((s.setRequestPin n false).demand n).isSome = true :=
    ⟨State.Awake.awake awake, Option.isSome_of_eq_some demand⟩
  exact (if_pos edge).trans (congrArg _ (if_pos taken))

/-- A withdrawn claim is IDLE, whatever it was (R157). -/
theorem State.withdraw_becomes (s : State) (n : Fin 2) : s.ClaimBecomes (s.withdraw n) n Claim.reset := by
  refine State.setClaimState_becomes ?_
  cases (s.claim n).state <;> simp [Claim.reset, ClaimState.listed]

/-- Settles O48: the listings and the fit test by their own lemmas, and each edge as one rewrite of its claim. -/
theorem requestEdgesOpenAndWithdrawAClaim : Obligations.RequestEdgesOpenAndWithdrawAClaim := by
  unfold Obligations.RequestEdgesOpenAndWithdrawAClaim
  intro needed headroom
  have fitting (s : State) (c : IslandClaim) : s.fits c = true ↔ (needed s c : Int) ≤ headroom s := by
    rw [s.fits_iff, s.needed_eq]
    rfl
  refine ⟨fun s => ?listings, IslandClaim.ahead_iff, fun s n w awake demand => ?edges⟩
  case listings =>
    have owns (n : Fin 2) (c : IslandClaim) : s.ownIslandClaim n = some c ↔ _ :=
      (s.ownIslandClaim_iff n c).trans (by rw [ClaimState.listed_iff])
    intro isOwn
    refine ⟨owns, fun c => ?_, s.islandClaims_nodup, rfl, fun c => ⟨s.needed_eq c, fitting s c⟩⟩
    rw [s.mem_islandClaims, mem_peerIslandClaims]
    refine or_congr (exists_congr fun n => owns n c) ⟨?_, ?_⟩
    · rintro ⟨member, peer, -, heard, r, record, lists⟩
      exact ⟨r, member, peer, heard, record, lists⟩
    · rintro ⟨r, member, peer, heard, record, lists⟩
      exact ⟨member, peer, rfl, heard, r, record, lists⟩
  case edges =>
    intro idle own fits others
    refine ⟨fun run edge opens => ?rising, fun edge => ?falling⟩
    case rising =>
      let v := s.setRequestPin n true
      have passes : v.linkOk = true ∧ v.fits (v.opening n w) = true ↔ s.linkOk = true ∧ fits :=
        and_congr_right' (fitting s own)
      by_cases ok : v.linkOk = true ∧ v.fits (v.opening n w) = true
      · obtain ⟨claim, rest, retest, followed⟩ :=
          (State.takeRequest_fits (s := v) demand opens ok).finish (s := s) rfl rfl rfl
        obtain ⟨link, fit⟩ := passes.1 ok
        exact ⟨_, exec_requestRising awake run edge, ⟨retest, rest⟩, followed, fun _ _ => claim,
          fun no => (no.elim (ne_true_of_eq_false · link) (· fit)).elim⟩
      · obtain ⟨claim, rest, retest, followed⟩ :=
          (State.takeRequest_waits (s := v) demand opens ok).finish (s := s) rfl rfl rfl
        exact ⟨_, exec_requestRising awake run edge, ⟨retest, rest⟩, followed,
          fun link fit => absurd (passes.2 ⟨link, fit⟩) ok, fun _ => claim⟩
    case falling =>
      obtain ⟨claim, rest, retest, followed⟩ := ((s.setRequestPin n false).withdraw_becomes n).finish (s := s) rfl rfl rfl
      exact ⟨_, exec_requestFalling awake demand edge, ⟨retest, rest⟩, claim, followed⟩

end Sys2Proof.Machine
end

section
/-! The re-test (R154, R159): one claim re-tested, the order of the two own claims, and what the second test finds of the
first. -/

namespace Sys2Proof.Machine

/-! ### One claim re-tested (R154) -/

section
variable {s : State} {n : Fin 2} {c : IslandClaim}

theorem State.retestClaim_moves (listed : s.ownIslandClaim n = some c) (waiting : c.state = .waiting)
    (passes : s.linkOk = true ∧ s.fits c = true) : s.retestClaim n = (s.noteFit c).toClaiming n := by
  simp [State.retestClaim, listed, waiting, passes]

theorem State.retestClaim_fails (listed : s.ownIslandClaim n = some c) (waiting : c.state = .waiting)
    (fails : ¬ (s.linkOk = true ∧ s.fits c = true)) : s.retestClaim n = s.noteFit c := by
  have no : ¬ (s.linkOk && s.fits c) = true := by simpa using fails
  simp [State.retestClaim, listed, waiting, no]

theorem State.retestClaim_rests (rests : ∀ c, s.ownIslandClaim n = some c → c.state ≠ .waiting) :
    s.retestClaim n = s := by
  unfold State.retestClaim
  split
  · next c listed => exact if_neg (rests c listed)
  · rfl

theorem State.retestClaim_becomes (listed : s.ownIslandClaim n = some c) (waiting : c.state = .waiting)
    (passes : s.linkOk = true ∧ s.fits c = true) : s.ClaimBecomes (s.retestClaim n) n
      { s.claim n with state := .claiming, window := some (s.now + 300000) } := by
  rw [State.retestClaim_moves listed waiting passes]
  refine (State.toClaiming_becomes (s := s.noteFit c) ?_).of_noteFit
  show (s.claim n).state ≠ .claiming
  rw [State.ownIslandClaim_waiting listed waiting]
  nofun

/-- As an island claim, a claim that has moved is the same in CLAIMING (R148, R154). -/
theorem State.retestClaim_listed (listed : s.ownIslandClaim n = some c) (waiting : c.state = .waiting)
    (passes : s.linkOk = true ∧ s.fits c = true) :
    (s.retestClaim n).ownIslandClaim n = some { c with state := .claiming } := by
  obtain ⟨station, index, demand, age, -⟩ := (s.ownIslandClaim_iff n c).1 listed
  obtain ⟨-, claim, -⟩ := State.retestClaim_becomes listed waiting passes
  have loader : (s.retestClaim n).loader = s.loader := s.retestClaim_frame n .loader (by decide)
  have own : (s.retestClaim n).own = s.own := by simp only [State.own, State.conf, loader]
  have demands : (s.retestClaim n).demand n = s.demand n := by simp only [State.demand, State.conf, loader]
  rw [State.ownIslandClaim_iff, own, demands, claim]
  exact ⟨station, index, demand, age, rfl⟩

end

/-- A re-test moves its claim into CLAIMING, where it is in WAITING and the test passes, or moves no claim (R154). -/
theorem State.retestClaim_cases (s : State) (n : Fin 2) :
    (∃ c, s.ownIslandClaim n = some c ∧ c.state = .waiting ∧ s.linkOk = true ∧ s.fits c = true)
      ∨ s.retestClaim n = s ∨ ∃ c, s.retestClaim n = s.noteFit c := by
  by_cases held : ∃ c, s.ownIslandClaim n = some c ∧ c.state = .waiting
  · obtain ⟨c, listed, waiting⟩ := held
    by_cases passes : s.linkOk = true ∧ s.fits c = true
    · exact .inl ⟨c, listed, waiting, passes⟩
    · exact .inr (.inr ⟨c, State.retestClaim_fails listed waiting passes⟩)
  · exact .inr (.inl (State.retestClaim_rests fun c listed waiting => held ⟨c, listed, waiting⟩))

/-- A re-test leaves the other claim as it was. -/
theorem State.retestClaim_claim_ne (s : State) {n k : Fin 2} (other : k ≠ n) :
    (s.retestClaim n).claim k = s.claim k := by
  rcases s.retestClaim_cases n with ⟨c, listed, waiting, passes⟩ | rests | ⟨c, fails⟩
  · obtain ⟨-, -, others⟩ := State.retestClaim_becomes listed waiting passes
    exact others k other
  · rw [rests]
  · rw [fails]
    rfl

/-! ### The claims moved by re-tests (R15, R154) -/

theorem State.urgentWaiting_congr {s t : State} (loader : t.loader = s.loader)
    (waits : t.composer.waiting = s.composer.waiting ∨ t.composer.waiting = s.urgentWaiting) :
    t.urgentWaiting = s.urgentWaiting := by
  unfold State.urgentWaiting at waits ⊢
  rw [loader]
  split <;> simp_all

/-- Two changes of own claims within one event, where the second takes back nothing that the first has reported. -/
theorem State.MovedClaims.trans {s t u : State} (first : s.MovedClaims t) (second : t.MovedClaims u)
    (reported : s.ClaimReported u ↔ s.ClaimReported t ∨ t.ClaimReported u) : s.MovedClaims u := by
  obtain ⟨⟨h1, h2, h3, h4, h5, h6, h7⟩, retest, reports, rests⟩ := first
  obtain ⟨⟨k1, k2, k3, k4, k5, k6, k7⟩, retest', reports', rests'⟩ := second
  have blocks : State.keepsBut { s with admission := u.admission } u [.composer, .island, .ladder, .linkOk, .alarms] := by
    intro b free
    have before := h1 b free
    have after := k1 b free
    cases b <;> first | rfl | (exact absurd (by decide) free) | exact Eq.trans after before
  have loader : t.loader = s.loader := h1 .loader (by decide)
  have waits : t.composer.waiting = s.composer.waiting ∨ t.composer.waiting = s.urgentWaiting := by
    by_cases yes : s.ClaimReported t
    · exact .inr (reports yes)
    · exact .inl (rests yes)
  refine ⟨⟨blocks, fun x held => k2 x (h2 x held), by rw [k3, h3], by rw [k4, h4], k5.trans h5, k6.trans h6,
    k7.trans h7⟩, retest'.trans retest, fun yes => ?_, fun no => ?_⟩
  · by_cases later : t.ClaimReported u
    · rw [reports' later, State.urgentWaiting_congr loader waits]
    · rw [rests' later, reports ((reported.1 yes).resolve_right later)]
  · obtain ⟨early, late⟩ := not_or.1 (mt reported.2 no)
    rw [rests' late, rests early]

/-- From `s` to `t` own claims have moved from WAITING to CLAIMING, and no other way (R154). -/
def State.Retests (s t : State) : Prop :=
  ∀ n, t.claim n = s.claim n ∨ ((s.claim n).state = .waiting ∧ (t.claim n).state = .claiming)

/-- A claim that a re-test moves is reported (R15). -/
theorem State.Retests.reported {s t : State} (retests : s.Retests t) :
    s.ClaimReported t ↔ ∃ n, (s.claim n).state = .waiting ∧ (t.claim n).state = .claiming := by
  constructor
  · rintro ⟨n, changed, -⟩
    exact ⟨n, (retests n).resolve_left fun stands => changed (congrArg _ stands)⟩
  · rintro ⟨n, waiting, claiming⟩
    exact ⟨n, by simp [waiting, claiming], .inl (by simp [waiting, ClaimState.listed])⟩

/-- Each claim is moved by no more than one of two re-tests, and so each move stays to be seen. -/
theorem State.Retests.trans {s t u : State} (first : s.Retests t) (second : t.Retests u) :
    s.Retests u ∧ (s.ClaimReported u ↔ s.ClaimReported t ∨ t.ClaimReported u) := by
  have either (n : Fin 2) : (u.claim n = t.claim n ∧ t.claim n = s.claim n)
      ∨ ((s.claim n).state = .waiting ∧ (t.claim n).state = .claiming ∧ u.claim n = t.claim n)
      ∨ (t.claim n = s.claim n ∧ (t.claim n).state = .waiting ∧ (u.claim n).state = .claiming) := by
    rcases first n with stands | ⟨waiting, claiming⟩
    · exact (second n).imp (⟨·, stands⟩) fun ⟨waiting, claiming⟩ => .inr ⟨stands, waiting, claiming⟩
    · rcases second n with stands | ⟨again, -⟩
      · exact .inr (.inl ⟨waiting, claiming, stands⟩)
      · exact nomatch claiming.symm.trans again
  have retests : s.Retests u := fun n => by
    rcases either n with ⟨e, f⟩ | ⟨waiting, claiming, e⟩ | ⟨e, waiting, claiming⟩
    · exact .inl (e.trans f)
    · exact .inr ⟨waiting, e ▸ claiming⟩
    · exact .inr ⟨e ▸ waiting, claiming⟩
  refine ⟨retests, ?_⟩
  rw [retests.reported, first.reported, second.reported, ← exists_or]
  refine exists_congr fun n => ?_
  rcases either n with ⟨e, f⟩ | ⟨waiting, claiming, e⟩ | ⟨e, waiting, claiming⟩ <;> simp_all

/-- A change that leaves every claim and asks for nothing. -/
theorem State.MovedClaims.of_stands {s t : State} (requested : State.Requested { s with admission := t.admission } t)
    (claims : ∀ n, t.claim n = s.claim n) (retest : t.admission.retest = s.admission.retest)
    (waits : t.composer.waiting = s.composer.waiting) : s.MovedClaims t :=
  ⟨requested, retest, fun ⟨n, changed, _⟩ => absurd (congrArg _ (claims n)) changed, fun _ => waits⟩

/-- One re-test takes its claim from WAITING to CLAIMING or moves none, and reports what it moves (R15, R154). -/
theorem State.retestClaim_moved (s : State) (n : Fin 2) :
    s.MovedClaims (s.retestClaim n) ∧ s.Retests (s.retestClaim n) := by
  rcases s.retestClaim_cases n with ⟨c, listed, waiting, passes⟩ | rests | ⟨c, fails⟩
  · obtain ⟨moved, claim, others⟩ := State.retestClaim_becomes listed waiting passes
    refine ⟨moved, fun k => ?_⟩
    by_cases same : k = n
    · subst same
      exact .inr ⟨State.ownIslandClaim_waiting listed waiting, congrArg _ claim⟩
    · exact .inl (others k same)
  · rw [rests]
    exact ⟨.of_stands (.refl s) (fun _ => rfl) rfl rfl, fun _ => .inl rfl⟩
  · rw [fails]
    exact ⟨.of_stands (.refl _) (fun _ => rfl) rfl rfl, fun _ => .inl rfl⟩

/-- Re-tests in any order take claims from WAITING to CLAIMING alone, and report what they move (R15, R154). -/
theorem State.foldl_retestClaim_moved (order : List (Fin 2)) (s : State) :
    s.MovedClaims (order.foldl State.retestClaim s) ∧ s.Retests (order.foldl State.retestClaim s) := by
  induction order generalizing s with
  | nil => exact ⟨.of_stands (.refl s) (fun _ => rfl) rfl rfl, fun _ => .inl rfl⟩
  | cons n rest ih =>
    obtain ⟨moved, retests⟩ := s.retestClaim_moved n
    obtain ⟨moved', retests'⟩ := ih (s.retestClaim n)
    obtain ⟨both, reported⟩ := retests.trans retests'
    exact ⟨moved.trans moved' reported, both⟩

/-! ### The order of the two claims (R150, R154) -/

/-- Of two own claims one stands ahead of the other. -/
theorem IslandClaim.ahead_swap {a b : IslandClaim} (station : a.station = b.station) (index : a.index ≠ b.index) :
    a.ahead b = true ↔ ¬ b.ahead a = true := by
  rw [IslandClaim.ahead_iff, IslandClaim.ahead_iff, station]
  have apart : (a.index : Nat) ≠ b.index := fun same => index (Fin.ext same)
  simp only [lt_irrefl, true_and, false_or, Fin.lt_def]
  by_cases first : a.state = .granted <;> by_cases second : b.state = .granted <;>
    simp only [first, second, ne_eq, not_true, not_false_iff, true_and, false_and, and_true, and_false, iff_true, iff_false,
      or_false, false_or, iff_self]
  all_goals omega

/-- The claim that stands ahead is re-tested first (R154). -/
theorem State.retestOrder_cases {s : State} {n k : Fin 2} {c : IslandClaim} (listed : s.ownIslandClaim n = some c)
    (other : k ≠ n) :
    (s.retestOrder = [n, k] ∧ ∀ a, s.ownIslandClaim k = some a → ¬ a.ahead c = true)
      ∨ (s.retestOrder = [k, n] ∧ ∀ a, s.ownIslandClaim k = some a → a.ahead c = true) := by
  have swap (a : IslandClaim) (held : s.ownIslandClaim k = some a) : a.ahead c = true ↔ ¬ c.ahead a = true := by
    obtain ⟨station, index, -⟩ := (s.ownIslandClaim_iff n c).1 listed
    obtain ⟨station', index', -⟩ := (s.ownIslandClaim_iff k a).1 held
    exact IslandClaim.ahead_swap (station'.trans station.symm) (by rwa [index, index'])
  obtain ⟨rfl, rfl⟩ | ⟨rfl, rfl⟩ : (n = 0 ∧ k = 1) ∨ (n = 1 ∧ k = 0) := by omega
  · cases held : s.ownIslandClaim 1 with
    | none => exact .inl ⟨by simp [State.retestOrder, listed, held], nofun⟩
    | some a =>
      simp only [State.retestOrder, listed, held, Option.some.injEq, forall_eq']
      by_cases ahead : a.ahead c = true <;> simp [ahead]
  · cases held : s.ownIslandClaim 0 with
    | none => exact .inr ⟨by simp [State.retestOrder, listed, held], nofun⟩
    | some a =>
      simp only [State.retestOrder, listed, held, Option.some.injEq, forall_eq', swap a held]
      by_cases behind : c.ahead a = true <;> simp [behind]

/-! ### What a claim needs beside the other one (R151, R154) -/

/-- The demands of those of a list of claims that stand ahead of `c` in CLAIMING or GRANTED (R151). -/
def demandAhead (c : IslandClaim) (claims : List IslandClaim) : Nat :=
  ((claims.filter (fun d => d.state != .waiting && d.ahead c)).map (·.demand)).sum

theorem demandAhead_append (c : IslandClaim) (xs ys : List IslandClaim) :
    demandAhead c (xs ++ ys) = demandAhead c xs + demandAhead c ys := by simp [demandAhead]

/-- The claims of the peers among the island claims (R148). -/
def State.peersClaims (s : State) : List IslandClaim :=
  s.island.members.flatMap (fun i => if i = s.own then [] else peerIslandClaims i (s.entry i))

theorem State.islandClaims_eq (s : State) :
    s.islandClaims = (s.ownIslandClaim 0).toList ++ (s.ownIslandClaim 1).toList ++ s.peersClaims := by
  have own : (List.finRange 2).filterMap s.ownIslandClaim
      = (s.ownIslandClaim 0).toList ++ (s.ownIslandClaim 1).toList := by
    cases zero : s.ownIslandClaim 0 <;> cases one : s.ownIslandClaim 1 <;>
      simp [List.finRange_succ, zero, one]
  rw [← own]
  rfl

/-- For an own claim the fit test counts the other own claim and those of the peers (R151). -/
theorem State.needed_own {s : State} {n k : Fin 2} {c : IslandClaim} (listed : s.ownIslandClaim n = some c)
    (other : k ≠ n) : s.needed c = c.demand + (demandAhead c (s.ownIslandClaim k).toList
      + demandAhead c (s.peersClaims.filter (fun d => ¬ (d.station = c.station ∧ d.index = c.index)))) := by
  obtain ⟨station, index, -⟩ := (s.ownIslandClaim_iff n c).1 listed
  have itself : (s.ownIslandClaim n).toList.filter (fun d => ¬ (d.station = c.station ∧ d.index = c.index)) = [] := by
    simp [listed]
  have beside : (s.ownIslandClaim k).toList.filter (fun d => ¬ (d.station = c.station ∧ d.index = c.index))
      = (s.ownIslandClaim k).toList := by
    refine List.filter_eq_self.2 fun d held => ?_
    obtain ⟨-, index', -⟩ := (s.ownIslandClaim_iff k d).1 (Option.mem_toList.1 held)
    simp [index, index', other]
  have others : s.otherClaims c = (s.ownIslandClaim k).toList
      ++ s.peersClaims.filter (fun d => ¬ (d.station = c.station ∧ d.index = c.index)) := by
    rw [State.otherClaims, s.islandClaims_eq, List.filter_append, List.filter_append]
    obtain ⟨rfl, rfl⟩ | ⟨rfl, rfl⟩ : (n = 0 ∧ k = 1) ∨ (n = 1 ∧ k = 0) := by omega
    · rw [itself, beside, List.nil_append]
    · rw [itself, beside, List.append_nil]
  rw [State.needed, others, ← demandAhead_append]
  rfl

/-- The demand that the re-test of another own claim, made before that of `c`, adds ahead of it (R154). -/
def State.takenAhead (s : State) (k : Fin 2) (c : IslandClaim) : Nat :=
  match s.ownIslandClaim k with
  | some a => if a.state = .waiting ∧ a.ahead c = true ∧ s.fits a = true then a.demand else 0
  | none => 0

theorem State.takenAhead_eq_zero {s : State} {k : Fin 2} {c : IslandClaim} (stays : ∀ a, s.ownIslandClaim k = some a →
    a.state = .waiting → a.ahead c = true → ¬ s.fits a = true) : s.takenAhead k c = 0 := by
  unfold State.takenAhead
  split
  · next a held => exact if_neg fun ⟨waiting, ahead, fits⟩ => stays a held waiting ahead fits
  · rfl

/-- What the fit test of one claim reads, but for the other own claim, stands through the re-test of that other. -/
theorem State.retestClaim_reads (s : State) {n k : Fin 2} (other : k ≠ n) :
    (s.retestClaim k).ownIslandClaim n = s.ownIslandClaim n ∧ (s.retestClaim k).peersClaims = s.peersClaims
      ∧ (s.retestClaim k).headroomNow = s.headroomNow := by
  have frame := s.retestClaim_frame k
  have loader : (s.retestClaim k).loader = s.loader := frame .loader (by decide)
  have peers : (s.retestClaim k).peers = s.peers := frame .peers (by decide)
  have island : (s.retestClaim k).island = s.island := frame .island (by decide)
  have claim := s.retestClaim_claim_ne other.symm
  refine ⟨?_, ?_, ?_⟩
  · simp only [State.ownIslandClaim, State.demand, State.own, State.conf, loader, claim]
  · simp only [State.peersClaims, State.own, State.conf, State.entry, loader, peers, island]
    rfl
  · simp only [State.headroomNow, island]

/-- The second claim of a re-test needs the first one's demand too where that has moved (R154). -/
theorem State.needed_retestClaim {s : State} {n k : Fin 2} {c : IslandClaim} (listed : s.ownIslandClaim n = some c)
    (other : k ≠ n) (link : s.linkOk = true) (before : ∀ a, s.ownIslandClaim k = some a → a.ahead c = true) :
    (s.retestClaim k).needed c = s.needed c + s.takenAhead k c := by
  obtain ⟨own, peers, -⟩ := s.retestClaim_reads other
  rw [State.needed_own (own.trans listed) other, State.needed_own listed other, peers]
  suffices taken : demandAhead c ((s.retestClaim k).ownIslandClaim k).toList
      = demandAhead c (s.ownIslandClaim k).toList + s.takenAhead k c by omega
  by_cases moves : ∃ a, s.ownIslandClaim k = some a ∧ a.state = .waiting ∧ s.linkOk = true ∧ s.fits a = true
  · obtain ⟨a, held, waiting, passes⟩ := moves
    have ahead := before a held
    have moved : { a with state := .claiming }.ahead c = true := by
      simpa [IslandClaim.ahead, waiting] using ahead
    have counted : s.takenAhead k c = a.demand := by simp [State.takenAhead, held, waiting, ahead, passes]
    simp [s.retestClaim_listed held waiting passes, held, counted, demandAhead, waiting, moved]
  · have stands : (s.retestClaim k).ownIslandClaim k = s.ownIslandClaim k := by
      rcases (s.retestClaim_cases k).resolve_left moves with rests | ⟨a, fails⟩
      · rw [rests]
      · rw [fails]
        rfl
    rw [stands, State.takenAhead_eq_zero fun a held waiting _ fits => moves ⟨a, held, waiting, link, fits⟩, Nat.add_zero]

/-! ### The re-test of both claims (R154) -/

/-- A claim re-tested: it moves where the test passes, and stands otherwise (R154). -/
theorem State.retestClaim_claim {s : State} {n : Fin 2} {c : IslandClaim} (listed : s.ownIslandClaim n = some c)
    (waiting : c.state = .waiting) :
    (s.linkOk = true ∧ (s.needed c : Int) ≤ s.headroomNow →
        (s.retestClaim n).claim n = { s.claim n with state := .claiming, window := some (s.now + 300000) })
      ∧ (¬ (s.linkOk = true ∧ (s.needed c : Int) ≤ s.headroomNow) → (s.retestClaim n).claim n = s.claim n) := by
  rw [← s.fits_iff]
  refine ⟨fun passes => ?_, fun fails => ?_⟩
  · obtain ⟨-, claim, -⟩ := State.retestClaim_becomes listed waiting passes
    exact claim
  · rw [State.retestClaim_fails listed waiting fails]
    rfl

/-- Both claims re-tested: what becomes of one that is in WAITING (R154). -/
theorem State.retested_claim {s : State} {n k : Fin 2} {c : IslandClaim} (listed : s.ownIslandClaim n = some c)
    (waiting : c.state = .waiting) (other : k ≠ n) :
    let t := s.retestOrder.foldl State.retestClaim s
    let moves := s.linkOk = true ∧ ((s.needed c + s.takenAhead k c : Nat) : Int) ≤ s.headroomNow
    (moves → t.claim n = { s.claim n with state := .claiming, window := some (s.now + 300000) })
      ∧ (¬ moves → t.claim n = s.claim n) := by
  intro t moves
  rcases State.retestOrder_cases listed other with ⟨order, behind⟩ | ⟨order, ahead⟩
  · have last : t.claim n = (s.retestClaim n).claim n := by
      simp only [t, order, List.foldl_cons, List.foldl_nil]
      exact State.retestClaim_claim_ne _ other.symm
    have alone : s.takenAhead k c = 0 :=
      State.takenAhead_eq_zero fun a held _ ahead => absurd ahead (behind a held)
    simp only [last, moves, alone, Nat.add_zero]
    exact State.retestClaim_claim listed waiting
  · let u := s.retestClaim k
    have last : t = u.retestClaim n := by simp only [t, order, List.foldl_cons, List.foldl_nil, u]
    obtain ⟨own, -, headroom⟩ := s.retestClaim_reads other
    have frame := s.retestClaim_frame k
    have link : u.linkOk = s.linkOk := frame .linkOk (by decide)
    have now : u.now = s.now := frame .clock (by decide)
    have claim : u.claim n = s.claim n := s.retestClaim_claim_ne other.symm
    have judged : moves ↔ u.linkOk = true ∧ (u.needed c : Int) ≤ u.headroomNow := by
      rw [headroom, link]
      exact and_congr_right fun up => by rw [State.needed_retestClaim listed other up ahead]
    rw [last, judged, ← claim, ← now]
    exact State.retestClaim_claim (own.trans listed) waiting

/-! ### RETEST_TIMER_EXPIRY (R154) -/

/-- The card at its re-test: the re-test timer has started again (R154). -/
def State.atRetest (s : State) (d : Nat) : State :=
  { s.advanceTo d with admission := { s.admission with retest := some (max s.now d + 100000) } }

theorem exec_retestTimerExpiry {s : State} {d : Nat} (awake : s.Awake) (runs : s.admission.retest = some d) :
    exec .retestTimerExpiry s
      = .next ((s.atRetest d).retestOrder.foldl State.retestClaim (s.atRetest d)).finish := by
  show execRetestTimerExpiry s = _
  rw [execRetestTimerExpiry, onExpiry_of awake runs]
  rfl

/-- Settles O50: the two claims in their order, the second tested beside what has become of the first. -/
theorem retestTakesTheWaitingInOrder : Obligations.RetestTakesTheWaitingInOrder := by
  intro s n k d c awake runs other listed waiting taken moves
  let v := s.atRetest d
  let u := v.retestOrder.foldl State.retestClaim v
  obtain ⟨moved, retests⟩ := State.foldl_retestClaim_moved v.retestOrder v
  obtain ⟨goes, stays⟩ := State.retested_claim (s := v) (n := n) (k := k) (c := c) listed waiting other
  have retest : u.admission.retest = v.admission.retest := moved.2.1
  have now : u.finish.now = v.now := (State.finish_now u).trans (moved.1.1 .clock (by decide))
  have claim (m : Fin 2) : u.finish.claim m = u.claim m := by simp only [State.claim, State.finish_admission]
  refine ⟨u.finish, exec_retestTimerExpiry awake runs, ?_, moved.followed rfl rfl rfl, fun rests => ?_, fun yes => ?_,
    fun no => ?_⟩
  · rw [State.finish_admission, retest, now]
    rfl
  · rw [claim]
    exact (retests k).resolve_right fun ⟨waits, _⟩ => rests waits
  · rw [claim, now]
    exact goes yes
  · rw [claim]
    exact stays no

end Sys2Proof.Machine
end

section
/-! Power (R165, R171): the card on entering LOAD, which is the card right after reset too, and the card that takes no
event, in LOAD or without supply. -/

namespace Sys2Proof.Machine

/-! ### Entering LOAD (R165) -/

@[simp] theorem State.entry_reset (i : Station) : State.reset.entry i = PeerEntry.empty 0 0 := by
  simp [State.entry, State.reset]

@[simp] theorem State.channel_reset (i : Fin 6) : State.reset.channel i = Channel.reset := by
  simp [State.channel, State.reset]

@[simp] theorem State.claim_reset (n : Fin 2) : State.reset.claim n = Claim.reset := by
  simp [State.claim, State.reset]

/-- The peer table, the group channels and the claims on entering LOAD (R24, R123, R160). -/
theorem State.enterLoad_tables (s : State) : (∀ i, s.enterLoad.entry i = PeerEntry.empty 0 0)
    ∧ (∀ i, s.enterLoad.channel i = Channel.reset) ∧ ∀ n, s.enterLoad.claim n = Claim.reset :=
  ⟨State.entry_reset, State.channel_reset, State.claim_reset⟩

theorem LaneIf.reset_atLoad : LaneIf.reset.AtLoad := by
  simp [LaneIf.AtLoad, LaneIf.reset, LaneIf.health]

/-- From any state the card enters LOAD with every block as its section lists it (R165). -/
theorem State.enterLoad_atLoad (s : State) : s.enterLoad.AtLoad := by
  obtain ⟨entries, channels, claims⟩ := s.enterLoad_tables
  refine ⟨⟨rfl, rfl, rfl, rfl, rfl⟩, ⟨LaneIf.reset_atLoad, LaneIf.reset_atLoad, rfl⟩, ?composer, ?peers, ?island,
    ⟨rfl, rfl, rfl⟩, ⟨rfl, rfl, rfl⟩, ?seq, ?duty, ?groups, ?ladder, ?admission, ?service, ⟨rfl, rfl⟩⟩
  case peers =>
    refine ⟨rfl, rfl, rfl, rfl, fun i => ?_⟩
    rw [entries]
    simp [PeerEntry.empty, PeerEntry.Blank]
  case groups =>
    refine ⟨rfl, fun i => ?_⟩
    rw [channels]
    simp [Channel.reset]
  case admission =>
    refine ⟨rfl, rfl, rfl, fun n => ?_⟩
    rw [claims]
    simp [Claim.reset]
  case island => simp [State.enterLoad, State.reset, TieView.allOpen]
  all_goals simp [State.enterLoad, State.reset]

/-- The card right after reset has entered LOAD at the clock's start (R165). -/
theorem State.enterLoad_reset : State.reset.enterLoad = State.reset := rfl

theorem State.reset_atLoad : State.reset.AtLoad := State.enterLoad_reset ▸ State.enterLoad_atLoad State.reset

/-- Settles O5: power-on enters LOAD, as reset has done. -/
theorem powerComesAndGoes : Obligations.PowerComesAndGoes :=
  ⟨⟨State.reset_atLoad, rfl, rfl⟩, fun s => ⟨rfl, s.enterLoad, rfl, s.enterLoad_atLoad, rfl, rfl, rfl, rfl, rfl⟩⟩

/-! ### The invariants right after reset -/

/-- Every claim is IDLE, its GRANT open and its mark clear (R158, R160). -/
theorem State.reset_claimsSafe : State.reset.GrantsSafe ∧ State.reset.MarksSafe :=
  ⟨fun n => by simp [Claim.reset], fun n mark => by simp [Claim.reset] at mark⟩

/-- The queue is empty and so is every entry (R23, R24). -/
theorem State.reset_tableSafe : State.reset.TableSafe := by
  refine ⟨Nat.zero_le 8, ?_, fun _ => rfl, fun i _ => ?_, fun i _ => ?_, fun i r record => ?_⟩
  · simp [State.reset]
  · rw [State.entry_reset]
    rfl
  · rw [State.entry_reset]
    simp [PeerEntry.Blank, PeerEntry.empty]
  · rw [State.entry_reset] at record
    cases record

/-- The ladder is empty, and so are its sources (R126). -/
theorem State.reset_ladderSafe : State.reset.LadderSafe :=
  State.reset_tableSafe.ladderSafe_iff.2 ⟨⟨Nat.zero_le 48, .nil, .nil⟩, .nil, .nil⟩

/-- No count and no age has begun (R12, R99, R106, R130, R147, R180). -/
theorem State.reset_countsSafe : State.reset.CountsSafe := by
  refine ⟨by decide, fun i => ?_, by decide, by decide, by decide, by decide, by decide, fun n => ?_⟩
  · simp [PeerEntry.empty]
  · simp [Claim.reset]

/-- No channel has a group record, and none drives a pulse (R110, R123). -/
theorem State.reset_channelsSafe : State.reset.ChannelsSafe := by
  refine ⟨fun _ => rfl, fun i => ?_⟩
  simp only [State.channel_reset]
  exact ⟨fun _ => ⟨rfl, rfl, rfl, rfl⟩, fun past => absurd rfl past, by simp [Channel.reset]⟩

/-- Nothing has been sent and no record has been formed (R17, R18, R56). -/
theorem State.reset_composerSafe : State.reset.ComposerSafe := by
  refine ⟨fun past => absurd rfl past, ?_, ?_, nofun⟩ <;> simp [State.reset]

/-- Settles O56, block by block: outputs released, tables empty, and in LOAD, where nothing is asked of the rest. -/
theorem resetIsSafe : Obligations.ResetIsSafe := by
  obtain ⟨grants, marks⟩ := State.reset_claimsSafe
  have biases : State.reset.BiasesSafe := (State.biasesSafe_iff _).2 (by simp [State.reset])
  have engine : State.reset.EngineSafe := by simp [State.EngineSafe, State.reset]
  have pulses : State.reset.PulsesSafe := fun i a trip => by simp [Channel.reset] at trip
  have alarms : State.reset.AlarmsSafe := ⟨fun _ => ⟨rfl, rfl⟩, fun past => absurd rfl past⟩
  have island : State.reset.IslandSafe := ⟨rfl, nofun, fun past => absurd rfl past⟩
  have current : State.reset.LadderCurrent := fun past => absurd rfl past
  exact ⟨biases, engine, pulses, grants, State.reset_tableSafe, State.reset_ladderSafe, alarms, island,
    State.reset_countsSafe, State.reset_channelsSafe, marks, current, State.reset_composerSafe⟩

/-! ### A card that takes no event (R165, R171) -/

/-- Whatever state a command leaves, the input levels alone may differ in it from `s`. -/
def State.MovesPinsIn (s : State) (r : Result) : Prop := ∀ t, r = .next t → t = { s with pins := t.pins }

theorem State.movesPins_next (s : State) (p : Pins) : s.MovesPinsIn (.next { s with pins := p }) := by
  rintro _ ⟨⟩
  rfl

theorem State.movesPins_same (s : State) : s.MovesPinsIn (.next s) := s.movesPins_next s.pins

section
variable {s : State} (asleep : s.awake = false)
include asleep

/-- An event of a card past LOAD is not taken (R165, R171). -/
theorem whileAwake_asleep (f : State → State) : s.MovesPinsIn (whileAwake s f) := by
  rw [whileAwake, asleep]
  exact s.movesPins_same

/-- Nor is a request at the service port (R175). -/
theorem serviceRequest_asleep (bs : List Byte) : s.MovesPinsIn (serviceRequest bs s) := whileAwake_asleep asleep _

/-- Nor is a timer's expiry (R165, R171). -/
theorem onExpiry_asleep (t : Timer) (f : State → State) : s.MovesPinsIn (onExpiry s t f) := by
  unfold onExpiry
  split
  · exact s.movesPins_same
  · rw [asleep]
    exact s.movesPins_same

/-- Of an edge the new level alone remains (R75, log entry 12). -/
theorem level_asleep (p : Pins) (t : State) {taken : Prop} [Decidable taken] (needs : taken → s.awake = true) :
    s.MovesPinsIn (.next (if taken then t else { s with pins := p })) := by
  rw [if_neg (mt needs (by simp [asleep]))]
  exact s.movesPins_next p

theorem edge_asleep (p : Pins) (t : State) {still taken : Prop} [Decidable still] [Decidable taken]
    (needs : taken → s.awake = true) :
    s.MovesPinsIn (if still then .next s else .next (if taken then t else { s with pins := p })) := by
  split
  · exact s.movesPins_same
  · exact level_asleep asleep p t needs

/-- The edge of an input that falls: it moves where the level is high (R75). -/
theorem fallingEdge_asleep (p : Pins) (t : State) {moves taken : Prop} [Decidable moves] [Decidable taken]
    (needs : taken → s.awake = true) :
    s.MovesPinsIn (if moves then .next (if taken then t else { s with pins := p }) else .next s) := by
  split
  · exact level_asleep asleep p t needs
  · exact s.movesPins_same

/-- Of every command but power-on, the loss of power and the two that end LOAD, the new input level alone remains. -/
theorem exec_asleep (c : Instr) (other : c ≠ .powerOn ∧ c ≠ .lossOfPower
      ∧ ∀ straps image, c ≠ .loadReadDone straps image ∧ c ≠ .loadTimeout straps image) :
    s.MovesPinsIn (exec c s) := by
  obtain ⟨notOn, notLoss, notEnd⟩ := other
  cases c with unfold exec
  | powerOn => exact absurd rfl notOn
  | lossOfPower => exact absurd rfl notLoss
  | loadReadDone straps image => exact absurd rfl (notEnd straps image).1
  | loadTimeout straps image => exact absurd rfl (notEnd straps image).2
  | breakerCloseEdge | availableEdge | tieInputChange | feedbackEdge => exact edge_asleep asleep _ _ id
  | requestRising | runningEdge | unloadEdge => exact edge_asleep asleep _ _ And.left
  | breakerOpenEdge => exact fallingEdge_asleep asleep _ _ id
  | requestFalling => exact fallingEdge_asleep asleep _ _ And.left
  | listenTimerExpiry | jamEnd | backoffExpiry | driverTestExpiry | errorWindowExpiry | silenceTimerExpiry
  | frameTimerExpiry | spacingTimerExpiry | entryTimer350 | entryTimer1000 | lanesHeardExpiry | tieFilterExpiry
  | returnTimerExpiry | meteringIntervalExpiry | startTimerExpiry | unloadTimerExpiry | openingTimerExpiry | setPulseEnd
  | evaluation | tripRecentTimerExpiry | confirmationWindowExpiry | groupPulseEnd | closeSpacingExpiry
  | handoffTimerExpiry | restoreCheck | actionAgeTick | claimWindowExpiry | retestTimerExpiry | waitingTimerExpiry
  | holdTimerExpiry | claimAgeTick | serviceGapExpiry => exact onExpiry_asleep asleep _ _
  | receptionBegins | receptionEnd | sendStart | frameComplete | collision | stuckEntry | driverTestLaneIdle
  | isolatedLaneIdle | stuckEnd | intake | responseSent | serviceByteReceived => exact whileAwake_asleep asleep _
  | badRequest | status | peer | ladder | claims | groups | alarms | counters | clearAlarms | clearCounters | clearPhantom
  | inhibit | enable | restart => exact serviceRequest_asleep asleep _

end

/-- Without supply neither does the end of LOAD act, nor a second loss of power (R171). -/
theorem exec_dark {s : State} (dark : s.powered = false) (c : Instr) (notOn : c ≠ .powerOn) : s.MovesPinsIn (exec c s) := by
  cases c with
  | powerOn => exact absurd rfl notOn
  | lossOfPower =>
    rintro _ ⟨⟩
    rw [← dark]
  | loadReadDone straps image =>
    show s.MovesPinsIn (execLoadReadDone straps image s)
    rw [execLoadReadDone, if_neg (by simp [dark])]
    exact s.movesPins_same
  | loadTimeout straps image =>
    show s.MovesPinsIn (execLoadTimeout straps image s)
    unfold execLoadTimeout
    split
    · exact s.movesPins_same
    · rw [if_neg (by simp [dark])]
      exact s.movesPins_same
  | _ => exact exec_asleep (by simp [State.awake, dark]) _ (by simp)

/-- Settles O4, from what a card without supply and a card in LOAD take of each command. -/
theorem loadTakesNoEvent : Obligations.LoadTakesNoEvent := by
  refine fun c s t notOn runs => ⟨fun dark => exec_dark dark c notOn t runs, fun load notLoss notEnd => ?_⟩
  exact exec_asleep (by simp [State.awake, State.mode, load]) c ⟨notOn, notLoss, notEnd⟩ t runs

end Sys2Proof.Machine
end

section
/-! The end of LOAD (R162 to R166): the values that a configuration in use lies within, and the card as it enters LISTEN,
from its own first values through the group channels and the set state to the end of the event. -/

namespace Sys2Proof.Machine

/-! ### The values of a configuration (R162 to R164) -/

/-- What a configuration holds beside what its frames carry lies within its values (R162, R163). -/
def Configuration.Tuned (c : Configuration) : Prop :=
  (c.fNom = 50000 ∨ c.fNom = 60000) ∧ (400 ≤ c.vNom ∧ c.vNom ≤ 15000)
    ∧ (c.kp ≤ 255 ∧ c.kf ≤ 255 ∧ c.kq ≤ 255 ∧ c.kv ≤ 255) ∧ (5 ≤ c.rampStep ∧ c.rampStep ≤ 200)
    ∧ (1 ≤ c.threshold ∧ c.threshold ≤ 255) ∧ c.groups.length ≤ 6 ∧ c.demands.length ≤ 2

theorem strapFrequency_cases (b : BitVec 1) : strapFrequency b = 50000 ∨ strapFrequency b = 60000 := by
  unfold strapFrequency
  split
  · exact .inl rfl
  · exact .inr rfl

/-- Each half of an image word is a byte (R163). -/
theorem imageHigh_le (im : List Word) (i : Nat) : imageHigh im i ≤ 255 := by
  have word : imageWord im i < 65536 := (im.getD i 0).isLt
  unfold imageHigh
  omega

theorem imageLow_le (im : List Word) (i : Nat) : imageLow im i ≤ 255 := by
  unfold imageLow
  omega

theorem strapConfiguration_tuned (st : StrapPins) : (strapConfiguration st).Tuned :=
  ⟨strapFrequency_cases _, by simp [strapConfiguration]⟩

theorem imageConfiguration_tuned (st : StrapPins) {im : List Word} (good : firstFaultOf im = 0) :
    (imageConfiguration st im).Tuned := by
  have fields := imageFieldsGood_of_noFault good
  simp only [imageFieldsGood, Bool.and_eq_true, within_iff, List.all_eq_true] at fields
  obtain ⟨⟨⟨⟨⟨⟨⟨⟨⟨⟨⟨-, -⟩, -⟩, vNom⟩, rampStep⟩, -⟩, -⟩, threshold⟩, -⟩, -⟩, -⟩, -⟩ := fields
  refine ⟨strapFrequency_cases _, vNom, ⟨imageHigh_le im 6, imageLow_le im 6, imageHigh_le im 7, imageLow_le im 7⟩,
    rampStep, threshold, ?_, ?_⟩
  · simp [imageConfiguration, usedSlots]
  · simp [imageConfiguration, usedDemands]

theorem formConfiguration_tuned (st : StrapPins) (im : List Word) : (formConfiguration st im).Tuned := by
  unfold formConfiguration
  split
  · next good => exact imageConfiguration_tuned st good
  · exact strapConfiguration_tuned st

/-- Settles O7, from the values that a frame carries and the others. -/
theorem configurationLiesWithinItsValues : Obligations.ConfigurationLiesWithinItsValues := by
  intro straps image c
  obtain ⟨ownSection, startRank, rating, reactive, groups, demands⟩ := formConfiguration_framed straps image
  obtain ⟨fNom, vNom, gains, rampStep, threshold, sixGroups, twoDemands⟩ := formConfiguration_tuned straps image
  exact ⟨ownSection, fNom, rating, reactive, vNom, gains, rampStep, startRank, threshold, sixGroups,
    formConfiguration_groups_nodup straps image, groups, twoDemands, demands⟩

/-! ### The group channels on entering LISTEN (R124) -/

theorem startGroupState_eq (g : GroupRecord) (closed : Bool) : startGroupState g closed =
    if g.sheddable = false then .inhibited else if closed then .connected else .openExternal := by
  cases shed : g.sheddable <;> simp [startGroupState, shed]

/-- The state that a configured channel starts in (R124). -/
theorem State.startChannel_state {s : State} {i : Fin 6} {g : GroupRecord} (record : s.groupRecord i = some g) :
    ((s.startChannel i).channel i).state = some (startGroupState g s.pins.feedback[i]) := by
  simp [State.startChannel, record]

/-- Starting a channel leaves the others. -/
theorem State.startChannel_channel_ne (s : State) {i j : Fin 6} (other : i ≠ j) :
    (s.startChannel i).channel j = s.channel j := by
  unfold State.startChannel
  split
  · rfl
  · exact State.channel_setChannel_ne s _ other

theorem State.startChannel_frame (s : State) (i : Fin 6) : s.keepsBut (s.startChannel i) [.groups] := by
  unfold State.startChannel
  split
  · exact .refl _ _
  · exact s.setChannel_frame i _

/-- Of channels started in turn each configured one has its start state (R124). -/
theorem State.startChannels_state {xs : List (Fin 6)} {s : State} {i : Fin 6} {g : GroupRecord} (mem : i ∈ xs)
    (record : s.groupRecord i = some g) :
    ((xs.foldl State.startChannel s).channel i).state = some (startGroupState g s.pins.feedback[i]) := by
  induction xs using List.reverseRecOn with
  | nil => cases mem
  | append_singleton xs x ih =>
    rw [List.foldl_append, List.foldl_cons, List.foldl_nil]
    have frame := State.keepsBut.foldl State.startChannel_frame xs s
    by_cases last : x = i
    · subst last
      have loader : (xs.foldl State.startChannel s).loader = s.loader := frame .loader (by decide)
      have pins : (xs.foldl State.startChannel s).pins = s.pins := frame .pins (by decide)
      have recordNow : (xs.foldl State.startChannel s).groupRecord x = some g := by
        rw [← record]
        simp only [State.groupRecord, State.conf, loader]
      rw [State.startChannel_state recordNow, pins]
    · rw [State.startChannel_channel_ne _ last]
      exact ih (by simpa [Ne.symm last] using mem)

theorem State.startChannels_closeSpacing (s : State) (xs : List (Fin 6)) :
    (xs.foldl State.startChannel s).groups.closeSpacing = s.groups.closeSpacing := by
  induction xs generalizing s with
  | nil => rfl
  | cons x xs ih =>
    rw [List.foldl_cons, ih]
    unfold State.startChannel
    split <;> rfl

/-- Between `s` and `t` the group channels have been started: every configured one in its start state, and nothing else has
moved (R124). -/
def State.ChannelsStarted (s t : State) : Prop :=
  s.keepsBut t [.groups] ∧ t.groups.closeSpacing = s.groups.closeSpacing
    ∧ ∀ i g, s.groupRecord i = some g → (t.channel i).state = some (startGroupState g s.pins.feedback[i])

theorem State.startChannels_started (s : State) :
    s.ChannelsStarted ((List.finRange 6).foldl State.startChannel s) :=
  ⟨s.startChannels_frame, s.startChannels_closeSpacing _, fun i _ => State.startChannels_state (List.mem_finRange i)⟩

/-! ### A settled card outside RUN -/

/-- Outside RUN the card mode is a cause of DROOP (R49, R51). -/
theorem State.Settled.droop_of_mode {s : State} (h : s.Settled) (quiet : s.loader.mode ≠ .run) :
    s.island.mode = .droop ∧ s.island.droopOut = true := by
  have active : s.causeNow = true := by simp [State.causeNow, State.droopCause, State.mode, quiet]
  have droop := (State.resolve_of_sharing (nextSharing_of_cause active _ _ _)).1
  have out := s.resolve_droopOut.2 droop
  rw [h.1] at droop out
  exact ⟨droop, out⟩

/-- The own station is a member of its island (R41). -/
theorem State.Settled.own_mem_members {s : State} (h : s.Settled) : s.own ∈ s.island.members := by
  have member : s.own ∈ s.resolve.island.members := (s.mem_membersIn _ _).2 (.inl rfl)
  rwa [h.1] at member

/-- A faulty image has the latch of CONFIG set (R164, R177). -/
theorem State.Settled.config_latched {s : State} (h : s.Settled) (formed : s.loader.config ≠ none)
    (faulty : s.loader.firstFault ≠ 0) : .config ∈ s.alarms.latched := by
  obtain ⟨-, -, -, latched, -⟩ := h
  refine latched .config ?_
  simp [State.active, State.configFault, Option.isSome_iff_ne_none, formed, faulty]

/-! ### A frame handed to a lane that is not idle (R3, R4) -/

/-- On a lane that is not idle a frame handed over is not sent at once, and leaves what is known of the lane and the timers
of its conditions (R4, R12, R13). -/
theorem LaneIf.Took.conditions {l m : LaneIf} {now : Nat} {f : Frame} (took : l.Took m now f)
    (busy : l.isIdle now = false) :
    m.quietFrom = l.quietFrom ∧ m.errorWindow = l.errorWindow ∧ m.silence = l.silence := by
  unfold LaneIf.Took at took
  split at took
  · rw [if_neg (by simp [busy])] at took
    subst took
    exact ⟨rfl, rfl, rfl⟩
  all_goals
    subst took
    exact ⟨rfl, rfl, rfl⟩

/-- Whatever was asked of the composer, a lane stands or has been handed a frame (R3, R16). -/
theorem State.DealtWith.lane {s t : State} {w : Option FrameKind} (h : s.DealtWith t w) (l : LaneId) :
    t.lane l = s.lane l ∨ ∃ f, (s.lane l).Took (t.lane l) s.now f := by
  unfold State.DealtWith at h
  split at h
  · obtain ⟨⟨took, -⟩, -⟩ := h
    exact .inr ⟨_, took l⟩
  · obtain ⟨laneA, laneB, -⟩ := h
    cases l
    · exact .inl laneA
    · exact .inl laneB

/-! ### Entering LISTEN (R166) -/

/-- The card on leaving LOAD, with every block at its start in LISTEN but for the group channels and the set state (R19,
R39, R53, R114, R130, R164, R166, R175). -/
def State.leaveLoad (s : State) (straps : StrapPins) (image : List Word) : State := { s with
  loader := { s.loader with straps, image, firstFault := firstFaultOf image
                            config := some (formConfiguration straps image), mode := .listen, loadTimer := none
                            listenTimer := some (s.now + 1000000) }
  laneA := s.laneA.enterListen s.now
  laneB := s.laneB.enterListen s.now
  island := { s.island with tieView := s.pins.tieView }
  metering := { s.metering with interval := some (s.now + 50000) }
  service := { s.service with gap := some (s.now + 20000) }
  groups := { s.groups with closeSpacing := some (s.now + 10000000) }
  ladder := { s.ladder with actionAge := 0, ageTimer := some (s.now + 100000) } }

/-- The set state taken from the levels, with what the regulator makes of it (R64, R73, R79). -/
def State.setStarted (s : State) : State := { s with
  seq := { s.seq with state := s.pins.startSetState }
  regulator := s.regulator.onState s.pins.startSetState s.inRun (perUnit s.island.ownP s.conf.rating) }

theorem State.setStarted_frame (s : State) : s.keepsBut s.setStarted [.seq, .regulator] :=
  fun b hb => by cases b <;> first | rfl | exact absurd (by decide) hb

section
variable (s : State) (straps : StrapPins) (image : List Word)

theorem State.leaveLoad_frame : s.keepsBut (s.leaveLoad straps image)
    [.loader, .laneA, .laneB, .island, .metering, .service, .groups, .ladder] :=
  fun b hb => by cases b <;> first | rfl | exact absurd (by decide) hb

/-- The card leaves LOAD, its channels start, its set state is taken as a change of state, and the event ends (R79, R124,
R166). -/
theorem State.enterListen_ends : ∃ w u : State, (s.leaveLoad straps image).ChannelsStarted w ∧ w.setStarted.Requested u
    ∧ s.enterListen straps image = u.finish :=
  ⟨_, _, State.startChannels_started _, State.setSetState_requested _ _, rfl⟩

/-- The blocks that the entry to LISTEN leaves alone (R166). -/
theorem State.enterListen_frame : s.keepsBut (s.enterListen straps image)
    ([.loader, .metering, .regulator, .seq, .groups, .service] ++ followers) := by
  obtain ⟨w, u, ⟨started, -⟩, requested, ends⟩ := s.enterListen_ends straps image
  rw [ends]
  exact (((s.leaveLoad_frame straps image).mono (by decide)).trans (started.mono (by decide))).trans
    ((w.setStarted_frame.mono (by decide)).trans (requested.settles.1.mono (by decide)))

@[simp] theorem State.enterListen_now : (s.enterListen straps image).now = s.now :=
  s.enterListen_frame straps image .clock (by decide)

/-- Neither lane is idle at the entry to LISTEN, so that a frame that waited is not sent there (R4, R19). -/
theorem State.enterListen_lane (l : LaneId) :
    ((s.enterListen straps image).lane l).quietFrom = .unseen (s.now + 80)
      ∧ ((s.enterListen straps image).lane l).errorWindow = some (s.now + 1000000)
      ∧ ((s.enterListen straps image).lane l).silence = some (s.now + 500000) := by
  obtain ⟨w, u, ⟨started, -⟩, requested, ends⟩ := s.enterListen_ends straps image
  have entered : w.setStarted.lane l = (s.lane l).enterListen s.now := by
    cases l
    · exact started .laneA (by decide)
    · exact started .laneB (by decide)
  rw [ends]
  rcases requested.dealtWith.lane l with stands | ⟨f, took⟩
  · rw [stands, entered]
    exact ⟨rfl, rfl, rfl⟩
  · rw [entered] at took
    exact took.conditions rfl

/-- Entering LISTEN, block by block (R166). -/
theorem State.enterListen_atListen : (s.enterListen straps image).AtListen straps image := by
  have lanes := s.enterListen_lane straps image
  have now := s.enterListen_now straps image
  have pins : (s.enterListen straps image).pins = s.pins := s.enterListen_frame straps image .pins (by decide)
  obtain ⟨w, u, ⟨started, spacing, channels⟩, requested, ends⟩ := s.enterListen_ends straps image
  obtain ⟨frame, -, settled, ladder, tieView, -⟩ := requested.settles
  rw [ends] at lanes now pins ⊢
  have loader : u.finish.loader = (s.leaveLoad straps image).loader :=
    Eq.trans (frame .loader (by decide)) (started .loader (by decide))
  have metering : u.finish.metering = (s.leaveLoad straps image).metering :=
    Eq.trans (frame .metering (by decide)) (started .metering (by decide))
  have service : u.finish.service = (s.leaveLoad straps image).service :=
    Eq.trans (frame .service (by decide)) (started .service (by decide))
  have startLadder : w.setStarted.ladder = (s.leaveLoad straps image).ladder := started .ladder (by decide)
  have island : w.setStarted.island = (s.leaveLoad straps image).island := started .island (by decide)
  have levels : w.pins = s.pins := started .pins (by decide)
  have seq : u.finish.seq = w.setStarted.seq := frame .seq (by decide)
  have groups : u.finish.groups = w.groups := frame .groups (by decide)
  have view : u.finish.island.tieView = u.finish.pins.tieView := by
    rw [tieView, island, pins]
    rfl
  obtain ⟨droop, out⟩ := settled.droop_of_mode (by rw [loader]; nofun)
  obtain ⟨-, entries, -, -, relay⟩ := id settled
  refine ⟨?loader, ?lanes, ⟨view, settled.sections, settled.own_mem_members, droop, out⟩, ?metering, ?seq, ?spacing,
    ?channels, ?age, ?ageTimer, entries, ?gap, relay, fun faulty => ?config⟩
  case loader =>
    rw [loader, now]
    exact ⟨rfl, rfl, rfl, rfl, rfl, rfl, rfl⟩
  case lanes =>
    rw [now]
    exact lanes
  case metering =>
    rw [metering, now]
    rfl
  case seq =>
    rw [seq, pins, ← levels]
    rfl
  case spacing =>
    rw [groups, now, spacing]
    rfl
  case channels =>
    intro i g record
    have there : (s.leaveLoad straps image).groupRecord i = some g := by
      rw [← record]
      simp only [State.groupRecord, State.conf, loader]
    rw [State.channel, groups, pins]
    exact (channels i g there).trans (congrArg some (startGroupState_eq g _))
  case age => rw [ladder, startLadder]; rfl
  case ageTimer => rw [ladder, startLadder, now]; rfl
  case gap => rw [service, now]; rfl
  case config => exact settled.config_latched (by rw [loader]; nofun) (by rw [loader]; exact faulty)

end

/-! ### The commands that end LOAD (R163, R166) -/

theorem exec_loadReadDone {s : State} (powered : s.powered = true) (load : s.loader.mode = .load) (straps : StrapPins)
    (image : List Word) : exec (.loadReadDone straps image) s = .next (s.enterListen straps image) :=
  congrArg Host.Outcome.next (if_pos ⟨powered, load⟩)

/-- An image of fewer than 27 words is kept whole at the timeout (R166). -/
theorem exec_loadTimeout {s : State} {d : Nat} {image : List Word} (powered : s.powered = true)
    (load : s.loader.mode = .load) (short : image.length < 27) (runs : s.loader.loadTimer = some d) (straps : StrapPins) :
    exec (.loadTimeout straps image) s = .next ((s.advanceTo d).enterListen straps image) := by
  have whole : image.take 26 = image := List.take_of_length_le (by omega)
  show execLoadTimeout straps image s = _
  simp only [execLoadTimeout, runs, whole]
  exact congrArg Host.Outcome.next (if_pos ⟨powered, load⟩)

/-- An image that is not whole is faulty by the first fault of the list (R163). -/
theorem firstFaultOf_short {image : List Word} (short : image.length < 27) : firstFaultOf image = 1 :=
  if_pos (by omega)

/-- A faulty image leaves the strap values (R164). -/
theorem formConfiguration_faulty {image : List Word} (faulty : firstFaultOf image ≠ 0) (straps : StrapPins) :
    formConfiguration straps image = strapConfiguration straps := if_neg faulty

/-- Settles O6: either command enters LISTEN, the timeout at its own instant and on straps. -/
theorem loadEndsInListen : Obligations.LoadEndsInListen := by
  refine fun s straps image powered load => ⟨fun _ => ?whole, fun d short runs => ?short⟩
  case whole =>
    exact ⟨_, exec_loadReadDone powered load straps image, s.enterListen_atListen straps image,
      s.enterListen_now straps image, s.enterListen_frame straps image⟩
  case short =>
    have fault := firstFaultOf_short short
    have enters := (s.advanceTo d).enterListen_atListen straps image
    obtain ⟨⟨-, -, -, -, -, first, config⟩, -⟩ := id enters
    rw [formConfiguration_faulty (by simp [fault])] at config
    exact ⟨_, exec_loadTimeout powered load short runs straps, enters, (s.advanceTo d).enterListen_now straps image,
      first.trans fault, config,
      ((s.advanceTo_frame d).mono (by decide)).trans (((s.advanceTo d).enterListen_frame straps image).mono (by decide))⟩

end Sys2Proof.Machine
end

section
/-! The entry to RUN (R141, R154, R167, R168): the first frame, composed before the REQUEST levels are taken, and the claims
that those levels open behind it. -/

namespace Sys2Proof.Machine

/-! ### A REQUEST taken (R152) -/

/-- The channel of a REQUEST is configured and its claim is IDLE, so that the request opens a claim (R152). -/
def State.Opens (s : State) (n : Fin 2) : Prop := s.demand n ≠ none ∧ (s.claim n).state = .idle

/-- Where no claim opens, the REQUEST is not taken (R152). -/
theorem State.takeRequest_refused {s : State} {n : Fin 2} (closed : ¬ s.Opens n) : s.takeRequest n = s := by
  unfold State.takeRequest
  split
  · next demand idle => exact absurd ⟨by simp [demand], idle⟩ closed
  · rfl

/-- A claim that opens goes from IDLE to CLAIMING or to WAITING, whatever else its record holds (R152). -/
theorem State.takeRequest_becomes {s : State} {n : Fin 2} (opens : s.Opens n) :
    ∃ x, s.ClaimBecomes (s.takeRequest n) n x ∧ (x.state = .claiming ∨ x.state = .waiting) := by
  obtain ⟨configured, idle⟩ := opens
  obtain ⟨w, demand⟩ := Option.ne_none_iff_exists'.1 configured
  have taken : s.takeRequest n =
      if (s.linkOk && s.fits (s.opening n w)) = true then (s.startClaim n (s.opening n w)).toClaiming n
      else (s.startClaim n (s.opening n w)).toWaiting n := by
    simp only [State.takeRequest, demand, idle]
    rfl
  have still : ((s.startClaim n (s.opening n w)).claim n).state = .idle := by
    rw [State.startClaim, State.claim_setClaim]
    exact idle
  rw [taken]
  split
  · exact ⟨_, (State.toClaiming_becomes (by rw [still]; nofun)).of_startClaim, .inl rfl⟩
  · exact ⟨_, (State.toWaiting_becomes (by rw [still]; nofun)).of_startClaim, .inr rfl⟩

/-! ### The REQUEST levels found at the entry to RUN (R168, log entry 32) -/

/-- A REQUEST level found at the entry to RUN is taken where it is high (R168). -/
def State.takeLevel (s : State) (n : Fin 2) : State := if s.pins.request[n] = true then s.takeRequest n else s

/-- A REQUEST level that is high opens its claim (R152, R168). -/
def State.LevelOpens (s : State) (n : Fin 2) : Prop := s.pins.request[n] = true ∧ s.Opens n

theorem State.takeLevel_opens {s : State} {n : Fin 2} (opens : s.LevelOpens n) :
    ∃ x, s.ClaimBecomes (s.takeLevel n) n x ∧ (x.state = .claiming ∨ x.state = .waiting) := by
  rw [State.takeLevel, if_pos opens.1]
  exact State.takeRequest_becomes opens.2

theorem State.takeLevel_rests {s : State} {n : Fin 2} (rests : ¬ s.LevelOpens n) : s.takeLevel n = s := by
  unfold State.takeLevel
  split
  · next high => exact State.takeRequest_refused fun opens => rests ⟨high, opens⟩
  · rfl

theorem State.takeLevel_frame (s : State) (n : Fin 2) : s.keepsBut (s.takeLevel n) [.admission, .composer] := by
  unfold State.takeLevel
  split
  · exact s.takeRequest_frame n
  · exact .refl _ _

/-- A level taken leaves the other claim. -/
theorem State.takeLevel_claim_ne (s : State) {n k : Fin 2} (other : k ≠ n) : (s.takeLevel n).claim k = s.claim k := by
  by_cases opens : s.LevelOpens n
  · obtain ⟨x, ⟨-, -, others⟩, -⟩ := State.takeLevel_opens opens
    exact others k other
  · rw [State.takeLevel_rests opens]

/-- A level taken moves its own claim alone, and reports it (R15, R152). -/
theorem State.takeLevel_moved (s : State) (n : Fin 2) : s.MovedClaims (s.takeLevel n) := by
  by_cases opens : s.LevelOpens n
  · obtain ⟨x, ⟨moved, -⟩, -⟩ := State.takeLevel_opens opens
    exact moved
  · rw [State.takeLevel_rests opens]
    exact .of_stands (.refl s) (fun _ => rfl) rfl rfl

/-- Whether a level opens its claim does not hang on the other one (R152). -/
theorem State.takeLevel_levelOpens (s : State) {n k : Fin 2} (other : k ≠ n) :
    (s.takeLevel n).LevelOpens k ↔ s.LevelOpens k := by
  have frame := s.takeLevel_frame n
  have pins : (s.takeLevel n).pins = s.pins := frame .pins (by decide)
  have loader : (s.takeLevel n).loader = s.loader := frame .loader (by decide)
  simp only [State.LevelOpens, State.Opens, State.demand, State.conf, pins, loader, s.takeLevel_claim_ne other]

/-- Of two changes, each of another claim, either is reported in the end (R15). -/
theorem State.claimReported_both {s t u : State} {n k : Fin 2} (other : k ≠ n)
    (first : ∀ j, j ≠ n → t.claim j = s.claim j) (second : ∀ j, j ≠ k → u.claim j = t.claim j) :
    s.ClaimReported u ↔ s.ClaimReported t ∨ t.ClaimReported u := by
  rw [State.claimReported_iff first, State.claimReported_iff second, first k other, ← second n other.symm]
  constructor
  · rintro ⟨j, reported⟩
    obtain rfl | rfl : j = n ∨ j = k := by omega
    · exact .inl reported
    · exact .inr reported
  · rintro (reported | reported)
    · exact ⟨n, reported⟩
    · exact ⟨k, reported⟩

/-- Both levels taken, channel 0 before channel 1 (R168, log entry 32). -/
def State.takeLevels (s : State) : State := (s.takeLevel 0).takeLevel 1

theorem State.takeLevels_moved (s : State) : s.MovedClaims s.takeLevels :=
  (s.takeLevel_moved 0).trans ((s.takeLevel 0).takeLevel_moved 1)
    (State.claimReported_both (n := 0) (k := 1) (by decide) (fun _ => s.takeLevel_claim_ne)
      fun _ => (s.takeLevel 0).takeLevel_claim_ne)

/-- What the two levels make of each claim (R152, R168). -/
theorem State.takeLevels_claim (s : State) (n : Fin 2) :
    (s.LevelOpens n → (s.takeLevels.claim n).state = .claiming ∨ (s.takeLevels.claim n).state = .waiting)
      ∧ (¬ s.LevelOpens n → s.takeLevels.claim n = s.claim n) := by
  obtain ⟨v, opens, before, after⟩ : ∃ v : State, (v.LevelOpens n ↔ s.LevelOpens n)
      ∧ v.claim n = s.claim n ∧ s.takeLevels.claim n = (v.takeLevel n).claim n := by
    obtain rfl | rfl : n = 0 ∨ n = 1 := by omega
    · exact ⟨s, .rfl, rfl, (s.takeLevel 0).takeLevel_claim_ne (by decide)⟩
    · exact ⟨s.takeLevel 0, s.takeLevel_levelOpens (by decide), s.takeLevel_claim_ne (by decide), rfl⟩
  rw [after, ← opens, ← before]
  refine ⟨fun yes => ?_, fun no => ?_⟩
  · obtain ⟨x, ⟨-, claim, -⟩, state⟩ := State.takeLevel_opens yes
    rwa [claim]
  · rw [State.takeLevel_rests no]

/-! ### The lanes at the entry to RUN (R3, R4, R19, log entry 36) -/

@[simp] theorem LaneIf.seeIdle_tx (x : LaneIf) (idle : Bool) : (x.seeIdle idle).tx = x.tx := by
  unfold LaneIf.seeIdle
  split <;> rfl

@[simp] theorem LaneIf.seeIdle_stuck (x : LaneIf) (idle : Bool) : (x.seeIdle idle).stuck = x.stuck := by
  unfold LaneIf.seeIdle
  split <;> rfl

/-- A lane is idle as a command has shown it, or as the free value has it where none has (R1, log entry 36). -/
theorem LaneIf.isIdle_seeIdle (x : LaneIf) (idle : Bool) (now : Nat) : (x.seeIdle idle).isIdle now = true ↔
    ∃ q, q ≤ now ∧ (x.quietFrom = .since q ∨ (x.quietFrom = .unseen q ∧ idle = true)) := by
  cases quiet : x.quietFrom <;> cases idle <;> simp [LaneIf.seeIdle, LaneIf.isIdle, quiet]

theorem State.seeLanes_lane (s : State) (l : LaneId) :
    s.seeLanes.lane l = (s.lane l).seeIdle (Config.laneSeenIdle l s.now) := by cases l <;> rfl

/-- A transmitter in IDLE sends the frame it is handed at once, or keeps it in DEFER (R3, R4). -/
theorem LaneIf.Took.of_idle {l m : LaneIf} {now : Nat} {f : Frame} (took : l.Took m now f) (idle : l.tx = .idle) :
    m.pendingFrame = some f ∧ (l.isIdle now = true ∧ l.stuck = false → m.tx = .send)
      ∧ (¬ (l.isIdle now = true ∧ l.stuck = false) → m.tx = .defer) := by
  unfold LaneIf.Took at took
  rw [idle] at took
  subst took
  refine ⟨?_, fun free => by rw [if_pos free], fun busy => by rw [if_neg busy]⟩
  split <;> rfl

/-! ### Claims moved behind a frame made within the event (R16, log entry 7) -/

/-- A change of what the admission logic holds, made on both sides. -/
theorem State.keepsBut.withAdmission {s t : State} {bs : List Block} (h : s.keepsBut t bs) (a : Admission) :
    State.keepsBut { s with admission := a } { t with admission := a } bs := fun b hb => by
  have same := h b hb
  cases b <;> first | rfl | exact same

/-- With the spacing timer stopped what waits is composed (R16). -/
theorem State.flush_composes {s : State} {k : FrameKind} (waits : s.composer.waiting = some k)
    (stopped : s.composer.spacing = none) : s.flush = s.compose k := by
  simp only [State.flush, waits, stopped]

section
variable {b u v : State} (asked : b.Requested u) (moved : u.flush.resolve.MovedClaims v)

include moved in
/-- The claims leave of the card with its frame made what its sharing mode is formed from, its lanes, and its composer but
for what waits. -/
theorem State.MovedClaims.stands_behind : v.sharingNow = u.flush.sharingNow ∧ (∀ l, v.lane l = u.flush.lane l)
    ∧ v.composer = { u.flush.composer with waiting := v.composer.waiting } := by
  obtain ⟨⟨frame, -, composer, -, -, -, sharing⟩, -⟩ := moved
  refine ⟨sharing.trans u.flush.resolve_sharingNow, fun l => ?_, composer⟩
  cases l
  · exact frame .laneA (by decide)
  · exact frame .laneB (by decide)

include asked moved

/-- The card is settled behind the frame and the claims (R48, R50, R127, R177). -/
theorem State.Requested.claims_settles (resolved : u.resolve = u) (waits : u.composer.waiting ≠ none) :
    State.Settles { b with admission := v.finish.admission } v.finish := by
  obtain ⟨sharing, lanes, composer⟩ := moved.stands_behind
  have spaced : v.composer.spacing ≠ none := by
    rw [composer]
    exact State.flush_spaced waits
  have shared : b.Shared v.finish := asked.shared_early resolved sharing composer spaced
  have alarms : u.flush.resolve.alarms = u.alarms := u.flush_frame .alarms (by decide)
  have flushLadder : u.flush.resolve.ladder = u.ladder := u.flush_frame .ladder (by decide)
  obtain ⟨flushView, flushFilters⟩ := u.flush_tie
  obtain ⟨⟨frame, latches, settled, ladder, tieView, tieFilters, -⟩, -⟩ := moved.followed (s := u.flush.resolve) rfl rfl rfl
  have kept := asked.flushed_frame
  obtain ⟨-, asks, -, asksLadder, view, filters, -⟩ := asked
  refine ⟨(kept.withAdmission _).trans frame, (asks.trans (.of_eq alarms)).trans latches, settled, ?_,
    tieView.trans (flushView.trans view), tieFilters.trans (flushFilters.trans filters), shared⟩
  refine ladder.trans ?_
  show { u.flush.resolve.ladder with entries := v.finish.ladder.entries } = _
  rw [flushLadder, asksLadder]

omit moved in
/-- What is reported at once is the claims that have moved behind the frame (R15). -/
theorem State.Requested.claims_urges : b.Urges v.finish ↔ u.flush.resolve.Urges v.finish := by
  have kept := asked.flushed_frame
  have seq : u.flush.resolve.seq = b.seq := kept .seq (by decide)
  have groups : u.flush.resolve.groups = b.groups := kept .groups (by decide)
  have admission : u.flush.resolve.admission = b.admission := kept .admission (by decide)
  simp only [State.Urges, State.channel, State.claim, seq, groups, admission]

/-- With the spacing timer stopped the frame is the one asked for, and a claim that is reported waits behind it as an urgent
request (R15, R16). -/
theorem State.Requested.claims_composed {k : FrameKind} (resolved : u.resolve = u) (run : b.loader.mode = .run)
    (waits : u.composer.waiting = some k) (stopped : b.composer.spacing = none) :
    b.Composed v.finish k ∧ (b.Urges v.finish → v.finish.composer.waiting = some .urgent)
      ∧ (¬ b.Urges v.finish → v.finish.composer.waiting = none) := by
  obtain ⟨-, lanes, composer⟩ := moved.stands_behind
  obtain ⟨composed, -⟩ := asked.composed_early resolved waits stopped lanes composer
  have spaced : u.flush.resolve.composer.spacing ≠ none := State.flush_spaced (by simp [waits])
  have mode : u.flush.resolve.loader.mode = .run := by
    rw [show u.flush.resolve.loader = b.loader from asked.flushed_frame .loader (by decide), run]
  have nothing : u.flush.resolve.composer.waiting = none := by
    obtain ⟨-, -, asks, -⟩ := asked
    have spacing : u.composer.spacing = none := by rw [asks, stopped]
    rw [State.resolve_composer, State.flush_composes waits spacing, State.compose_composer]
  obtain ⟨-, urgent, plain⟩ := moved.followed (s := u.flush.resolve) rfl rfl rfl
  rw [asked.claims_urges]
  refine ⟨composed, fun urges => ?_, fun still => ?_⟩
  · obtain ⟨-, -, held⟩ := (urgent mode urges).held (.inl spaced)
    rw [held]
  · obtain ⟨-, -, held⟩ := (plain (.inr still)).held (.inl spaced)
    rw [held, nothing]

end

/-! ### The entry to RUN (R168) -/

/-- The card at the entry to RUN once it has asked for its first frame (R168). -/
def State.firstAsked (s : State) : State := (s.startRun.request .periodic).resolve

theorem State.firstAsked_requested (s : State) : s.startRun.Requested s.firstAsked :=
  (State.request_requested _ _).trans (State.resolve_requested _)

theorem State.firstAsked_resolved (s : State) : s.firstAsked.resolve = s.firstAsked := State.resolve_resolve _

theorem State.firstAsked_waiting (s : State) :
    s.firstAsked.composer.waiting = some s.startRun.composer.askedPeriodic :=
  mergeRequest_periodic s.startRun.composer

/-- The card with its first frame made, before it takes the levels (R168, log entry 7). -/
def State.firstSent (s : State) : State := s.firstAsked.flush.resolve

/-- The first frame, the REQUEST levels and the end of the event (R168). -/
theorem State.enterRun_eq (s : State) : s.enterRun = s.firstSent.takeLevels.finish := rfl

/-- The entry to RUN leaves the card settled, with the timers of RUN started and its claims moved (R168). -/
theorem State.enterRun_settles (s : State) :
    State.Settles { s.startRun with admission := s.enterRun.admission } s.enterRun :=
  s.firstAsked_requested.claims_settles s.firstSent.takeLevels_moved s.firstAsked_resolved
    (by simp [s.firstAsked_waiting])

/-- With the spacing timer stopped and nothing waiting, the first frame is a periodic one (R16, R168). -/
theorem State.enterRun_composed {s : State} (stopped : s.composer.spacing = none) (quiet : s.composer.waiting = none) :
    s.startRun.Composed s.enterRun .periodic
      ∧ (s.startRun.Urges s.enterRun → s.enterRun.composer.waiting = some .urgent)
      ∧ (¬ s.startRun.Urges s.enterRun → s.enterRun.composer.waiting = none) := by
  have asked : s.firstAsked.composer.waiting = some .periodic := by
    rw [s.firstAsked_waiting]
    simp [Composer.askedPeriodic, State.startRun, quiet]
  exact s.firstAsked_requested.claims_composed s.firstSent.takeLevels_moved s.firstAsked_resolved rfl asked stopped

/-- The re-test timer and the claims at the entry to RUN (R154, R168). -/
theorem State.enterRun_admission (s : State) : s.enterRun.admission.retest = some (s.now + 100000)
    ∧ ∀ n, (s.LevelOpens n → (s.enterRun.claim n).state = .claiming ∨ (s.enterRun.claim n).state = .waiting)
      ∧ (¬ s.LevelOpens n → s.enterRun.claim n = s.claim n) := by
  have kept : s.startRun.keepsBut s.firstSent followers := s.firstAsked_requested.flushed_frame
  have admission : s.firstSent.admission = s.startRun.admission := kept .admission (by decide)
  have pins : s.firstSent.pins = s.startRun.pins := kept .pins (by decide)
  have loader : s.firstSent.loader = s.startRun.loader := kept .loader (by decide)
  have ends : s.enterRun.admission = s.firstSent.takeLevels.admission := State.finish_admission _
  obtain ⟨-, retest, -⟩ := s.firstSent.takeLevels_moved
  refine ⟨by rw [ends, retest, admission]; rfl, fun n => ?_⟩
  have claim : s.firstSent.claim n = s.claim n := by rw [State.claim, admission]; rfl
  have opens : s.firstSent.LevelOpens n ↔ s.LevelOpens n := by
    simp only [State.LevelOpens, State.Opens, State.demand, State.conf, pins, loader, claim]
    rfl
  rw [← opens, ← claim, State.claim, ends]
  exact s.firstSent.takeLevels_claim n

/-! ### LISTEN_TIMER_EXPIRY (R167) -/

theorem exec_listenTimerExpiry {s : State} {d : Nat} (awake : s.Awake) (runs : s.loader.listenTimer = some d) :
    exec .listenTimerExpiry s = .next (s.advanceTo d).seeLanes.enterRun :=
  onExpiry_of awake runs fun u => u.seeLanes.enterRun

/-- A transmitter in IDLE at the listen timer's expiry, with the first frame composed: whether it sends at once is as the
lane is idle (R3, R4, R19, log entry 36). -/
theorem State.Composed.first_frame {s t : State} {d : Nat} {l : LaneId}
    (composed : (s.advanceTo d).seeLanes.startRun.Composed t .periodic) (idle : (s.lane l).tx = .idle) :
    let quiet := ∃ q, q ≤ max s.now d ∧ ((s.lane l).quietFrom = .since q
      ∨ ((s.lane l).quietFrom = .unseen q ∧ Config.laneSeenIdle l (max s.now d) = true))
    ∃ f, (t.lane l).pendingFrame = some f ∧ f.kind = .periodic ∧ f.number = s.composer.nextNumber
      ∧ (quiet ∧ (s.lane l).stuck = false → (t.lane l).tx = .send)
      ∧ (¬ quiet ∨ (s.lane l).stuck = true → (t.lane l).tx = .defer) := by
  intro quiet
  obtain ⟨took, -⟩ := composed
  have lane : (s.advanceTo d).seeLanes.startRun.lane l
      = ((s.lane l).countBytes (max s.now d)).seeIdle (Config.laneSeenIdle l (max s.now d)) := by
    refine Eq.trans ?_ ((s.advanceTo d).seeLanes_lane l |>.trans (by rw [State.advanceTo_lane]; rfl))
    cases l <;> rfl
  have tookLane := took l
  rw [lane] at tookLane
  obtain ⟨pending, sends, defers⟩ := tookLane.of_idle (by simpa using idle)
  rw [LaneIf.seeIdle_stuck, LaneIf.countBytes_stuck, LaneIf.isIdle_seeIdle, LaneIf.countBytes_quietFrom] at sends defers
  refine ⟨_, pending, rfl, rfl, sends, fun busy => defers fun ⟨free, clear⟩ => ?_⟩
  rcases busy with busy | stuck
  · exact busy free
  · exact absurd (stuck.symm.trans clear) (by decide)

/-- Settles O8: the first frame is made of the card with its timers of RUN started, and the claims move behind it. -/
theorem listenExpiryEntersRun : Obligations.ListenExpiryEntersRun := by
  intro s d awake runs b idle
  let x := (s.advanceTo d).seeLanes
  have settles : State.Settles { b with admission := x.enterRun.admission } x.enterRun := x.enterRun_settles
  obtain ⟨retest, claims⟩ := x.enterRun_admission
  have now : x.enterRun.now = max s.now d := settles.1 .clock (by decide)
  refine ⟨x.enterRun, exec_listenTimerExpiry awake runs, now, settles, fun stopped quiet => ?_, by rw [retest, now]; rfl,
    fun n w demand free high => (claims n).1 ⟨high, ?_, free⟩, fun n closed => (claims n).2 fun ⟨high, demand, free⟩ => ?_⟩
  · obtain ⟨composed, urgent, plain⟩ := State.enterRun_composed (s := x) stopped quiet
    exact ⟨composed, urgent, plain, fun l free => composed.first_frame free⟩
  · exact fun none => nomatch none.symm.trans demand
  · rcases closed with none | busy | low
    · exact demand none
    · exact busy free
    · exact absurd (low.symm.trans high) (by decide)

end Sys2Proof.Machine
end

section
/-! RESTART (R170): judged at its taking, and again when its response has been sent (R175). -/

namespace Sys2Proof.Machine

/-! ### RESTART at an IDLE port (R172, R174) -/

/-- A request without an argument byte is answered as its kind serves it (R173, R174). -/
theorem serviceRequest_four {s u : State} {r : Reply} {kind : Nat} (awake : s.Awake) (idle : s.service.state = .idle)
    (byte : kind < 256) (length : requestLength kind = some 4)
    (served : ∀ arg, (s.receivedUpTo [0x6D#8, 4#8, byteOf kind]).serve kind arg = (u, r)) :
    serviceRequest (requestBytes kind []) s = .next (u.respond kind r) := by
  have kept : (byteOf kind).toNat = kind := toNat_byteOf byte
  have form : requestFormGood (requestBytes kind []) = true := by
    rw [requestFormGood, requestBytes, byteSum_withCheck]
    simp [withCheck, kept, length]
  obtain ⟨check, four⟩ : ∃ check, requestBytes kind [] = [0x6D#8, 4#8, byteOf kind, check] := ⟨_, rfl⟩
  rw [four] at form ⊢
  rw [serviceRequest, whileAwake_of awake, s.bytesToCome_idle idle, s.takeBytes_four idle, State.takeMessage, if_pos form]
  simp only [List.getD_cons_succ, List.getD_cons_zero, kept, served]

/-- The states in which a restart is accepted (R170). -/
theorem SetState.restartable_iff (st : SetState) :
    st.restartable = true ↔ st ∈ [SetState.off, .standby, .tripped, .startFailed] := by
  cases st <;> decide

/-- A restart is in progress or is none (R170). -/
def State.restarting (s : State) (progress : Bool) : State :=
  { s with loader := { s.loader with restartInProgress := progress } }

/-- RESTART is judged by the own set state (R170). -/
theorem State.serveRestart_eq (s : State) : s.serveRestart =
    if s.seq.state ∈ [SetState.off, .standby, .tripped, .startFailed] then (s.restarting true, .ok [])
    else (s, .reject .setOnline) := by
  simp only [State.serveRestart, SetState.restartable_iff]
  rfl

theorem exec_restart {s u : State} {r : Reply} (awake : s.Awake) (idle : s.service.state = .idle)
    (served : (s.receivedUpTo [0x6D#8, 4#8, byteOf 13]).serveRestart = (u, r)) :
    exec .restart s = .next (u.respond 13 r) :=
  serviceRequest_four awake idle (by decide) rfl fun _ => served

/-! ### The end of a response (R170, R175) -/

/-- The port after the last byte of a response (R175). -/
def State.portAfterResponse (s : State) : Service :=
  if s.service.overrun = true then
    { s.service with state := .resync, overrun := false, gap := some (s.now + 20000), response := []
                     overruns := min 65535 (s.service.overruns + 1) }
  else { s.service with state := .idle, response := [] }

theorem State.endResponse_eq (s : State) : s.endResponse = { s with service := s.portAfterResponse } := by
  simp only [State.endResponse, State.portAfterResponse]
  split <;> rfl

/-- The end of a response: the loader looks at the own set state again where a restart is in progress (R170). -/
theorem exec_responseSent {s : State} (awake : s.Awake) (responding : s.service.state = .responding) :
    exec .responseSent s = .next
      (if s.loader.restartInProgress = true ∧ s.seq.state ∈ [SetState.off, .standby, .tripped, .startFailed] then s.enterLoad
      else (s.restarting false).endResponse) := by
  have none_in_progress (still : s.loader.restartInProgress = false) : s.restarting false = s := by
    rw [State.restarting, ← still]
  show execResponseSent s = _
  rw [execResponseSent, whileAwake_of awake, if_pos responding]
  simp only [SetState.restartable_iff]
  cases progress : s.loader.restartInProgress
  · simp [none_in_progress progress]
  · simp only [if_true, true_and]
    rfl

/-- Settles O54: RESTART as it is served, and the end of a response by what the loader then finds. -/
theorem restartWaitsForItsResponse : Obligations.RestartWaitsForItsResponse := by
  intro s awake off ended
  refine ⟨fun idle offline => ?_, fun idle online => ?_, fun responding progress offline => ?_,
    fun responding abandons => ?_⟩
  · have accepted := exec_restart awake idle ((State.serveRestart_eq _).trans (if_pos offline))
    exact accepted
  · have refused := exec_restart awake idle ((State.serveRestart_eq _).trans (if_neg online))
    exact refused
  · refine ⟨s.enterLoad, ?_, s.enterLoad_atLoad, rfl, rfl⟩
    rw [exec_responseSent awake responding, if_pos ⟨progress, offline⟩]
  · have stays : ¬ (s.loader.restartInProgress = true ∧ off) := fun ⟨progress, offline⟩ =>
      abandons.elim (fun still => absurd (still.symm.trans progress) (by decide)) (fun online => online offline)
    rw [exec_responseSent awake responding, if_neg stays, State.endResponse_eq]
    rfl

end Sys2Proof.Machine
end

section
/-! The counts, the group channels and what a frame is composed from (R2, R12, R17, R18, R37, R55, R99, R106, R110 to R116,
R124, R130, R147, R164, R180) through every operation: what each invariant depends on, block by block, and what the
operations on those blocks leave of it. -/

namespace Sys2Proof.Machine

/-! ### The limits kept -/

/-- From `s` to `t` the card does not go back to LOAD, and the counts, the group channels and what a frame is composed from
stay safe, each for itself. -/
structure State.KeepsLimits (s t : State) : Prop where
  past : s.loader.mode ≠ .load → t.loader.mode ≠ .load
  counts : s.CountsSafe → t.CountsSafe
  channels : s.ChannelsSafe → t.ChannelsSafe
  composer : s.ComposerSafe → t.ComposerSafe

theorem State.KeepsLimits.refl (s : State) : s.KeepsLimits s := ⟨id, id, id, id⟩

theorem State.KeepsLimits.trans {s t u : State} (h : s.KeepsLimits t) (k : t.KeepsLimits u) : s.KeepsLimits u :=
  ⟨k.past ∘ h.past, k.counts ∘ h.counts, k.channels ∘ h.channels, k.composer ∘ h.composer⟩

/-- A step of an event that is made or not. -/
theorem State.KeepsLimits.ite {s t u : State} {c : Prop} [Decidable c] (h : s.KeepsLimits t)
    (k : c → t.KeepsLimits u) : s.KeepsLimits (if c then u else t) := by
  split
  · next made => exact h.trans (k made)
  · exact h

/-- A fold of operations that keep the limits keeps them. -/
theorem State.KeepsLimits.foldl {α : Type} {f : State → α → State} (hf : ∀ (s : State) (a : α), s.KeepsLimits (f s a))
    (xs : List α) (s : State) : s.KeepsLimits (xs.foldl f s) := by
  induction xs generalizing s with
  | nil => exact .refl s
  | cons x xs ih => exact (hf s x).trans (ih _)

/-! ### The counts, block by block (R12, R37, R99, R106, R130, R147, R180) -/

/-- The counters of a lane interface and its error window count keep their limits (R12, R19). -/
structure LaneIf.Counted (l : LaneIf) : Prop where
  good : l.goodFrames ≤ 65535
  check : l.checkErrors ≤ 65535
  collisions : l.collisions ≤ 65535
  drops : l.collisionDrops ≤ 65535
  replaced : l.replaced ≤ 65535
  errors : l.errorCount ≤ 255

/-- The two counters of a peer entry keep their limit (R37). -/
def PeerEntry.Counted (e : PeerEntry) : Prop := e.lateFrames ≤ 65535 ∧ e.dualCopies ≤ 65535

/-- The counts as each block holds its own. -/
structure State.Counted (s : State) : Prop where
  laneA : s.laneA.Counted
  laneB : s.laneB.Counted
  queue : s.rx.overruns ≤ 65535
  discarded : s.peers.lateFrames ≤ 65535 ∧ s.peers.dualCopies ≤ 65535
  entries : ∀ i, (s.entry i).Counted
  port : s.service.overruns ≤ 65535
  duty : s.duty.startNeed ≤ 200 ∧ s.duty.stopCounter ≤ 3000
  actionAge : s.ladder.actionAge ≤ 255
  claims : ∀ n, (s.claim n).age ≤ 255

theorem State.countsSafe_iff (s : State) : s.CountsSafe ↔ s.Counted := by
  have counters : (∀ n ∈ s.counters, n ≤ 65535) ↔
      (s.laneA.goodFrames ≤ 65535 ∧ s.laneA.checkErrors ≤ 65535 ∧ s.laneA.collisions ≤ 65535
        ∧ s.laneA.collisionDrops ≤ 65535 ∧ s.laneA.replaced ≤ 65535)
      ∧ (s.laneB.goodFrames ≤ 65535 ∧ s.laneB.checkErrors ≤ 65535 ∧ s.laneB.collisions ≤ 65535
        ∧ s.laneB.collisionDrops ≤ 65535 ∧ s.laneB.replaced ≤ 65535)
      ∧ s.rx.overruns ≤ 65535 ∧ s.peers.lateFrames ≤ 65535 ∧ s.peers.dualCopies ≤ 65535
      ∧ s.service.overruns ≤ 65535 := by
    simp [State.counters, LaneIf.counters, and_assoc]
  rw [State.CountsSafe, counters]
  constructor
  · rintro ⟨⟨⟨a1, a2, a3, a4, a5⟩, ⟨b1, b2, b3, b4, b5⟩, queue, late, dual, port⟩, entries, errA, errB, need, stop, age,
      claims⟩
    exact ⟨⟨a1, a2, a3, a4, a5, errA⟩, ⟨b1, b2, b3, b4, b5, errB⟩, queue, ⟨late, dual⟩, entries, port, ⟨need, stop⟩, age,
      claims⟩
  · rintro ⟨⟨a1, a2, a3, a4, a5, errA⟩, ⟨b1, b2, b3, b4, b5, errB⟩, queue, ⟨late, dual⟩, entries, port, ⟨need, stop⟩,
      age, claims⟩
    exact ⟨⟨⟨a1, a2, a3, a4, a5⟩, ⟨b1, b2, b3, b4, b5⟩, queue, late, dual, port⟩, entries, errA, errB, need, stop, age,
      claims⟩

theorem bump_le (n : Nat) : bump n ≤ 65535 := min_le_left _ _

theorem bump8_le (n : Nat) : bump8 n ≤ 255 := min_le_left _ _

/-- An operation on the blocks that count something, in terms of the block that it touches. -/
theorem State.Counted.keeps {s t : State} (h : s.Counted → t.Counted) (c : s.CountsSafe) : t.CountsSafe :=
  t.countsSafe_iff.2 (h (s.countsSafe_iff.1 c))

/-! ### The group channels, one by one (R110, R112 to R116, R124) -/

/-- What a group channel may be: without a group record it drives nothing, past LOAD it holds a group state with one, and its
confirmation window runs exactly while a command is pending. -/
def State.ChannelFits (s : State) (i : Fin 6) (c : Channel) : Prop :=
  (s.groupRecord i = none → c.state = none ∧ c.trip = none ∧ c.close = none ∧ c.tripHeld = false)
    ∧ (s.loader.mode ≠ .load → s.groupRecord i ≠ none → c.state ≠ none)
    ∧ (c.window.isSome ↔ c.state = some .shedPending ∨ c.state = some .restorePending)

/-- A channel with a group state has a group record (R110). -/
theorem State.ChannelFits.configured {s : State} {i : Fin 6} {c : Channel} (fits : s.ChannelFits i c)
    (state : c.state ≠ none) : s.groupRecord i ≠ none := fun unconfigured => state (fits.1 unconfigured).1

/-- A configured channel may take any group state, with a window where that is pending. -/
theorem State.ChannelFits.of_configured {s : State} {i : Fin 6} {c : Channel} (configured : s.groupRecord i ≠ none)
    (state : c.state ≠ none)
    (window : c.window.isSome ↔ c.state = some .shedPending ∨ c.state = some .restorePending) : s.ChannelFits i c :=
  ⟨fun unconfigured => absurd unconfigured configured, fun _ _ => state, window⟩

/-! ### What the composer is asked for (R15, R16) -/

/-- Of the composer no more than the waiting request differs between `s` and `t`. -/
def State.Asked (s t : State) : Prop := t.composer = { s.composer with waiting := t.composer.waiting }

theorem State.Requested.asked {s t : State} (h : s.Requested t) : s.Asked t := h.2.2.1

theorem State.MovedBlocks.asked {s t : State} (h : s.MovedBlocks t) : s.Asked t := h.2.2.1

theorem State.Moved.asked {s t : State} (h : s.Moved t) : s.Asked t := h.2.2.1

/-! ### Operations apart from the limits -/

/-- The blocks on which no limit depends. -/
def unlimitedBlocks : List Block := [.clock, .supply, .pins, .linkOk, .island, .regulator, .seq, .alarms, .queue]

/-- An operation that asks something of the composer and touches no block that a limit depends on. -/
theorem State.keepsBut.keepsLimits_asked {s t : State} {bs : List Block} (h : s.keepsBut t bs) (asked : s.Asked t)
    (apart : bs ⊆ .composer :: unlimitedBlocks := by decide) : s.KeepsLimits t := by
  have stands (b : Block) (limited : b ∉ .composer :: unlimitedBlocks) : b.same s t := h b fun mem => limited (apart mem)
  have laneA : t.laneA = s.laneA := stands .laneA (by decide)
  have laneB : t.laneB = s.laneB := stands .laneB (by decide)
  have rx : t.rx = s.rx := stands .rx (by decide)
  have peers : t.peers = s.peers := stands .peers (by decide)
  have metering : t.metering = s.metering := stands .metering (by decide)
  have duty : t.duty = s.duty := stands .duty (by decide)
  have groups : t.groups = s.groups := stands .groups (by decide)
  have ladder : t.ladder = s.ladder := stands .ladder (by decide)
  have admission : t.admission = s.admission := stands .admission (by decide)
  have loader : t.loader = s.loader := stands .loader (by decide)
  have service : t.service = s.service := stands .service (by decide)
  refine ⟨by rw [loader]; exact id, fun c => ?_, fun c => ?_, fun c => ?_⟩
  · simpa only [State.CountsSafe, State.counters, State.entry, State.claim, laneA, laneB, rx, peers, duty, ladder,
      admission, service] using c
  · simpa only [State.ChannelsSafe, State.groupRecord, State.conf, State.channel, groups, loader] using c
  · unfold State.ComposerSafe at c ⊢
    rw [asked, metering, loader]
    exact c

/-- An operation that touches no block that a limit depends on. -/
theorem State.keepsBut.keepsLimits {s t : State} {bs : List Block} (h : s.keepsBut t bs)
    (apart : bs ⊆ unlimitedBlocks := by decide) : s.KeepsLimits t := by
  have composer : t.composer = s.composer := h .composer fun mem => absurd (apart mem) (by decide)
  exact h.keepsLimits_asked (by rw [State.Asked, composer]) fun b mem => List.mem_cons_of_mem _ (apart mem)

theorem State.request_keepsLimits (s : State) (k : FrameKind) : s.KeepsLimits (s.request k) :=
  (s.request_frame k).keepsLimits_asked (s.request_requested k).asked

theorem State.raise_keepsLimits (s : State) (k : AlarmKind) : s.KeepsLimits (s.raise k) := (s.raise_frame k).keepsLimits

/-! ### The lane interfaces -/

theorem State.setLane_keepsLimits (s : State) (l : LaneId) (x : LaneIf)
    (counted : (s.lane l).Counted → x.Counted) : s.KeepsLimits (s.setLane l x) := by
  cases l with
  | a => exact ⟨id, State.Counted.keeps fun h => { h with laneA := counted h.laneA }, id, id⟩
  | b => exact ⟨id, State.Counted.keeps fun h => { h with laneB := counted h.laneB }, id, id⟩

theorem LaneIf.Counted.countBytes {l : LaneIf} (h : l.Counted) (now : Nat) : (l.countBytes now).Counted := by
  unfold LaneIf.countBytes
  split <;> exact ⟨h.good, h.check, h.collisions, h.drops, h.replaced, h.errors⟩

theorem LaneIf.Counted.enterDefer {l : LaneIf} (h : l.Counted) (now : Nat) : (l.enterDefer now).Counted := by
  unfold LaneIf.enterDefer
  split <;> exact ⟨h.good, h.check, h.collisions, h.drops, h.replaced, h.errors⟩

theorem LaneIf.Counted.handOver {l : LaneIf} (h : l.Counted) (now : Nat) (f : Frame) : (l.handOver now f).Counted := by
  have replaces (x : LaneIf) (same : x = { l with pendingFrame := x.pendingFrame, nextFrame := x.nextFrame
                                                  attempts := x.attempts, replaced := bump l.replaced }) : x.Counted := by
    rw [same]
    exact ⟨h.good, h.check, h.collisions, h.drops, bump_le _, h.errors⟩
  unfold LaneIf.handOver
  split
  · exact LaneIf.Counted.enterDefer (l := { l with pendingFrame := some f, attempts := 0 })
      ⟨h.good, h.check, h.collisions, h.drops, h.replaced, h.errors⟩ now
  · exact replaces _ rfl
  · exact replaces _ rfl
  · exact replaces _ rfl
  · split
    · exact ⟨h.good, h.check, h.collisions, h.drops, h.replaced, h.errors⟩
    · exact replaces _ rfl
  · exact h

theorem LaneIf.Counted.startTest {l : LaneIf} (h : l.Counted) (now : Nat) : (l.startTest now).Counted := by
  unfold LaneIf.startTest
  dsimp only
  split
  · exact ⟨h.good, h.check, h.collisions, h.drops, h.replaced, h.errors⟩
  · exact ⟨h.good, h.check, h.collisions, h.drops, bump_le _, h.errors⟩

theorem State.advanceTo_keepsLimits (s : State) (d : Nat) : s.KeepsLimits (s.advanceTo d) :=
  ⟨id, State.Counted.keeps fun h => { h with laneA := h.laneA.countBytes _, laneB := h.laneB.countBytes _ }, id, id⟩

theorem State.hearPeer_keepsLimits (s : State) (l : LaneId) : s.KeepsLimits (s.hearPeer l) := by
  refine .ite (s.setLane_keepsLimits l _ fun h => ?_) fun _ => State.setLane_keepsLimits _ _ _ fun h => ?_
  · exact ⟨h.good, h.check, h.collisions, h.drops, h.replaced, h.errors⟩
  · exact ⟨h.good, h.check, h.collisions, h.drops, h.replaced, h.errors⟩

theorem State.queueFrame_keepsLimits (s : State) (l : LaneId) (f : Frame) : s.KeepsLimits (s.queueFrame l f) := by
  unfold State.queueFrame
  split
  · exact ⟨id, State.Counted.keeps fun h => { h with }, id, id⟩
  · refine .trans (t := { s with rx := { s.rx with overruns := bump s.rx.overruns } })
      ⟨id, State.Counted.keeps fun h => { h with queue := bump_le _ }, id, id⟩ (State.raise_keepsLimits _ _)

/-! ### A composition and the end of an event (R16 to R18) -/

/-- A P, a Q and a bus frequency within the ranges of the frame (R2). -/
def InRanges (p q : Int) (f : Nat) : Prop :=
  (-32000 ≤ p ∧ p ≤ 32000) ∧ (-32000 ≤ q ∧ q ≤ 32000) ∧ (f = 0 ∨ (40000 ≤ f ∧ f ≤ 65535))

theorem State.ComposerSafe.sentValues {s : State} (h : s.ComposerSafe) :
    InRanges s.sentValues.1 s.sentValues.2.1 s.sentValues.2.2 := by
  obtain ⟨-, -, last, latest⟩ := h
  rcases s.sentValues_cases with ⟨r, some, values⟩ | values
  · rw [values]
    exact latest r some
  · rw [values]
    exact last

theorem State.compose_keepsLimits (s : State) (k : FrameKind) : s.KeepsLimits (s.compose k) where
  past := id
  counts := State.Counted.keeps fun h => { h with laneA := h.laneA.handOver _ _, laneB := h.laneB.handOver _ _ }
  channels := id
  composer h := by
    obtain ⟨config, ⟨low, high⟩, -, latest⟩ := id h
    refine ⟨config, ?_, ?_, latest⟩
    · rw [State.compose_composer]
      dsimp only
      split <;> omega
    · rw [State.compose_composer]
      exact h.sentValues

theorem State.flush_keepsLimits (s : State) : s.KeepsLimits s.flush := by
  unfold State.flush
  split
  · exact s.compose_keepsLimits _
  · exact .refl s

theorem Ladder.set_keepsLimits (s : State) (l : Ladder) (age : s.ladder.actionAge ≤ 255 → l.actionAge ≤ 255 := by exact id) :
    s.KeepsLimits { s with ladder := l } :=
  ⟨id, State.Counted.keeps fun h => { h with actionAge := age h.actionAge }, id, id⟩

theorem State.relist_keepsLimits (s : State) : s.KeepsLimits s.relist := Ladder.set_keepsLimits s _

theorem State.settle_keepsLimits (s : State) : s.KeepsLimits s.settle :=
  (s.resolve_frame.keepsLimits.trans (State.relist_keepsLimits _)).trans (State.syncAlarms_frame _).keepsLimits

theorem State.finish_keepsLimits (s : State) : s.KeepsLimits s.finish :=
  (s.resolve_frame.keepsLimits.trans (State.flush_keepsLimits _)).trans (State.settle_keepsLimits _)

end Sys2Proof.Machine
end

section
/-! The limits through the operations of the own set, the claims, the groups and the ladder. -/

namespace Sys2Proof.Machine

/-! ### The own set (R76 to R94) -/

/-- A change of the own set state, after a change of the sequencer's timers and marks. -/
theorem State.setSetState_keepsLimits (s : State) (q : Sequencer) (st : SetState) :
    s.KeepsLimits (State.setSetState { s with seq := q } st) :=
  (Sequencer.set_frame s q).keepsLimits.trans ((State.setSetState_frame _ st).keepsLimits_asked
    (State.setSetState_moved _ st).asked)

theorem State.abortUnload_keepsLimits (s : State) : s.KeepsLimits s.abortUnload :=
  s.abortUnload_frame.keepsLimits_asked s.abortUnload_moved.1.asked

theorem State.takeStart_keepsLimits (s : State) : s.KeepsLimits s.takeStart :=
  s.takeStart_frame.keepsLimits_asked s.takeStart_moved.1.asked

theorem State.takeStop_keepsLimits (s : State) : s.KeepsLimits s.takeStop :=
  s.takeStop_frame.keepsLimits_asked s.takeStop_moved.1.asked

theorem State.takeNotice_keepsLimits (s : State) (n : Option Notice) : s.KeepsLimits (s.takeNotice n) :=
  (s.takeNotice_frame n).keepsLimits_asked (s.takeNotice_moved n).1.asked

theorem State.judgeUnload_keepsLimits (s : State) : s.KeepsLimits s.judgeUnload := by
  unfold State.judgeUnload
  split
  · exact s.setSetState_keepsLimits _ _
  · exact s.raise_keepsLimits _

/-! ### The duty logic (R99, R106) -/

theorem Duty.set_keepsLimits (s : State) (d : Duty)
    (within : s.duty.startNeed ≤ 200 ∧ s.duty.stopCounter ≤ 3000 → d.startNeed ≤ 200 ∧ d.stopCounter ≤ 3000 := by exact id) :
    s.KeepsLimits { s with duty := d } :=
  ⟨id, State.Counted.keeps fun h => { h with duty := within h.duty }, id, id⟩

/-- An evaluation moves both counters of the duty logic within their limits (R99, R106, R108). -/
theorem State.evaluate_keepsLimits (s : State) : s.KeepsLimits s.evaluate := by
  have need : s.formNeeds.startNeed ≤ 200 := by
    show s.needAfter ≤ 200
    unfold State.needAfter
    split <;> omega
  have stop : s.stopAfter s.formNeeds ≤ 3000 := by
    unfold State.stopAfter
    split <;> omega
  unfold State.evaluate
  dsimp only
  refine .ite (.ite (.ite (Duty.set_keepsLimits s _ fun _ => ⟨need, ?_⟩) fun _ => ?_) fun _ => ?_) fun _ => ?_
  · dsimp only
    split <;> omega
  · exact State.abortUnload_keepsLimits _
  · exact State.takeStart_keepsLimits _
  · exact State.takeStop_keepsLimits _

/-! ### The claims (R147) -/

/-- Where every claim's age keeps its limit, so do the counts: nothing else of the admission logic is limited. -/
theorem Admission.set_keepsLimits (s : State) (a : Admission)
    (ages : (∀ n, (s.claim n).age ≤ 255) → ∀ n : Fin 2, a.claims[n].age ≤ 255 := by exact id) :
    s.KeepsLimits { s with admission := a } :=
  ⟨id, State.Counted.keeps fun h => { h with claims := ages h.claims }, id, id⟩

theorem State.setClaim_keepsLimits (s : State) (n : Fin 2) (c : Claim)
    (age : (s.claim n).age ≤ 255 → c.age ≤ 255 := by exact id) : s.KeepsLimits (s.setClaim n c) := by
  refine Admission.set_keepsLimits s _ fun ages m => ?_
  show ((s.setClaim n c).claim m).age ≤ 255
  by_cases same : n = m
  · subst same
    rw [State.claim_setClaim]
    exact age (ages n)
  · rw [State.claim_setClaim_ne s c same]
    exact ages m

theorem State.setClaimState_keepsLimits (s : State) (n : Fin 2) (c : Claim)
    (age : (s.claim n).age ≤ 255 → c.age ≤ 255 := by exact id) : s.KeepsLimits (s.setClaimState n c) :=
  .ite (s.setClaim_keepsLimits n c age) fun _ => State.request_keepsLimits _ _

theorem State.noteFit_keepsLimits (s : State) (c : IslandClaim) : s.KeepsLimits (s.noteFit c) :=
  Admission.set_keepsLimits s _

theorem State.toRefused_keepsLimits (s : State) (n : Fin 2) : s.KeepsLimits (s.toRefused n) :=
  (s.setClaimState_keepsLimits n _).trans (State.raise_keepsLimits _ _)

/-- A request opens its claim at age 0 (R152). -/
theorem State.takeRequest_keepsLimits (s : State) (n : Fin 2) : s.KeepsLimits (s.takeRequest n) := by
  unfold State.takeRequest
  split
  · dsimp only
    split <;> exact (s.noteFit_keepsLimits _).trans
      ((State.setClaim_keepsLimits _ n _ (by exact fun _ => Nat.zero_le 255)).trans
        (State.setClaimState_keepsLimits _ n _))
  · exact .refl s

theorem State.retestClaim_keepsLimits (s : State) (n : Fin 2) : s.KeepsLimits (s.retestClaim n) := by
  unfold State.retestClaim
  split
  · split
    · exact .ite (s.noteFit_keepsLimits _) fun _ => State.setClaimState_keepsLimits _ n _
    · exact .refl s
  · exact .refl s

theorem State.judgeWindow_keepsLimits (s : State) (n : Fin 2) : s.KeepsLimits (s.judgeWindow n) := by
  unfold State.judgeWindow
  split
  · exact .refl s
  · next c _ =>
    refine (s.noteFit_keepsLimits c).trans ?_
    dsimp only
    split
    · exact State.setClaimState_keepsLimits _ n _
    · split
      · exact State.toRefused_keepsLimits _ n
      · exact State.setClaimState_keepsLimits _ n _

theorem State.waitedOut_keepsLimits (s : State) (n : Fin 2) : s.KeepsLimits (s.waitedOut n) := by
  have stops : s.KeepsLimits (s.setClaim n { s.claim n with waiting := none }) := s.setClaim_keepsLimits n _
  unfold State.waitedOut
  dsimp only
  split
  · exact stops.trans (State.toRefused_keepsLimits _ n)
  · exact stops.trans (State.setClaim_keepsLimits _ n _)
  all_goals exact stops

/-! ### One group channel rewritten (R110 to R121) -/

/-- An operation on one group channel, which may be reported, and listed on the ladder. -/
theorem State.KeepsLimits.of_channel {s t : State} {i : Fin 6} (frame : s.keepsBut t [.groups, .composer, .ladder])
    (asked : s.Asked t) (age : t.ladder.actionAge = s.ladder.actionAge) (others : ∀ j, j ≠ i → t.channel j = s.channel j)
    (fits : s.ChannelFits i (s.channel i) → s.ChannelFits i (t.channel i)) : s.KeepsLimits t := by
  have apart : s.KeepsLimits { t with groups := s.groups, ladder := s.ladder } := by
    refine State.keepsBut.keepsLimits_asked (bs := [.composer]) (fun b limited => ?_) asked
    have same := frame b
    cases b <;> first | rfl | exact same (by decide) | exact absurd (by decide) limited
  have loader : t.loader = s.loader := frame .loader (by decide)
  have record (j : Fin 6) : t.groupRecord j = s.groupRecord j := by rw [State.groupRecord, State.conf, loader]; rfl
  refine ⟨apart.past, fun c => ?_, fun ⟨load, channels⟩ => ⟨by rwa [loader], fun j => ?_⟩, apart.composer⟩
  · exact State.Counted.keeps (s := { t with groups := s.groups, ladder := s.ladder })
      (fun h => { h with actionAge := by rw [age]; exact h.actionAge }) (apart.counts c)
  · rw [record, loader]
    by_cases same : j = i
    · subst same
      exact fits (channels j)
    · rw [others j same]
      exact channels j

theorem State.setChannel_keepsLimits (s : State) (i : Fin 6) (c : Channel)
    (fits : s.ChannelFits i (s.channel i) → s.ChannelFits i c) : s.KeepsLimits (s.setChannel i c) :=
  .of_channel ((s.setChannel_frame i c).mono (by decide)) rfl rfl (fun _ other => s.channel_setChannel_ne c other.symm)
    (by rwa [State.channel_setChannel])

/-- A change of a group's state, after a change of its channel's marks and window. -/
theorem State.setChannel_groupState_keepsLimits (s : State) (i : Fin 6) (c : Channel) (st : GroupState)
    (fits : s.ChannelFits i (s.channel i) → s.ChannelFits i { c with state := some st }) :
    s.KeepsLimits ((s.setChannel i c).setGroupState i st) := by
  have requested := (s.setChannel i c).setGroupState_requested i st
  rw [State.channel_setChannel, State.setChannel_setChannel] at requested
  have groups := requested.1 .groups (by decide)
  have channel (j : Fin 6) : ((s.setChannel i c).setGroupState i st).channel j
      = (s.setChannel i { c with state := some st }).channel j := congrArg (·.channels[j]) groups
  refine .of_channel (i := i) ((s.setChannel_frame i c).comp (State.setGroupState_frame _ i st)) requested.asked
    (by rw [requested.2.2.2.1]; rfl) (fun j other => ?_) ?_
  · rw [channel, State.channel_setChannel_ne _ _ other.symm]
  · rwa [channel, State.channel_setChannel]

/-- A pending group of a configured channel, with its window. -/
theorem State.takeShed_keepsLimits (s : State) (i : Fin 6) : s.KeepsLimits (s.takeShed i) := by
  by_cases connected : (s.channel i).state = some .connected
  · refine .of_channel (s.takeShed_frame i) (s.takeShed_moves i).1.asked (by rw [s.takeShed_ladder i])
      (fun _ => s.takeShed_channel_ne) fun fits => ?_
    have configured := fits.configured (by simp [connected])
    obtain ⟨starts, held⟩ := State.takeShed_channel connected
    by_cases idle : (s.channel i).close = none
    · rw [(starts idle).1]
      exact .of_configured configured (by simp) (by simp)
    · rw [(held idle).1]
      exact .of_configured configured (by simp) (by simp)
  · rw [State.takeShed_of_ne connected]
    exact .refl s

theorem State.takeRestore_keepsLimits (s : State) (i : Fin 6) : s.KeepsLimits (s.takeRestore i) := by
  by_cases takes : (s.channel i).state = some .shed ∧ s.groups.closeSpacing = none
  · obtain ⟨shed, free⟩ := takes
    refine .of_channel (s.takeRestore_frame i) (s.takeRestore_moves i).1.asked
      (by rw [s.takeRestore_ladder i]) (fun _ => s.takeRestore_channel_ne) fun fits => ?_
    rw [(State.takeRestore_channel shed free).1]
    exact .of_configured (fits.configured (by simp [shed])) (by simp) (by simp)
  · rw [State.takeRestore, if_neg takes]
    exact .refl s

/-- An edge of a group's feedback leaves no command pending that it has taken (R113, R115). -/
theorem State.takeEdge_keepsLimits (i : Fin 6) (closing : Bool) (s : State) : s.KeepsLimits (s.takeEdge i closing) := by
  cases state : (s.channel i).state with
  | none =>
    rw [State.takeEdge, state]
    exact .refl s
  | some st =>
    by_cases inhibited : st = .inhibited
    · subst inhibited
      rw [State.takeEdge_inhibited state]
      exact s.setChannel_keepsLimits i _ id
    · rw [State.takeEdge_taken state inhibited]
      split
      · exact s.setChannel_keepsLimits i _ id
      · next moves =>
        refine s.setChannel_groupState_keepsLimits i _ _ fun fits =>
          .of_configured (fits.configured (by simp [state])) (by simp) ?_
        cases st <;> cases closing <;> simp_all [GroupState.onEdge]
        next command => cases command <;> simp

/-- INHIBIT and ENABLE: from a group that is not pending into a state that is not (R119, R120). -/
theorem State.clearMarks_groupState_keepsLimits (s : State) (i : Fin 6) {before after : GroupState}
    (state : (s.channel i).state = some before) (quiet : before ≠ .shedPending ∧ before ≠ .restorePending)
    (settles : after ≠ .shedPending ∧ after ≠ .restorePending) :
    s.KeepsLimits ((s.clearMarks i).setGroupState i after) := by
  refine s.setChannel_groupState_keepsLimits i _ after fun fits => ?_
  have window : (s.channel i).window.isSome = false := by simpa [state, quiet] using fits.2.2
  exact .of_configured (fits.configured (by simp [state])) (by simp) (by simp [window, settles])

/-- A TRIP pulse starts at a configured channel alone (R110, R116). -/
theorem State.startTrip_keepsLimits (s : State) (i : Fin 6)
    (configured : s.ChannelFits i (s.channel i) → s.groupRecord i ≠ none) : s.KeepsLimits (s.startTrip i) := by
  obtain ⟨channel, -, others⟩ := s.startTrip_stands i
  refine .of_channel ((s.startTrip_frame i).mono (by decide)) rfl rfl others ?_
  rw [channel]
  exact fun fits => ⟨fun unconfigured => absurd unconfigured (configured fits), fits.2.1, fits.2.2⟩

/-- The end of a pulse at a channel that drives one: a TRIP held back may start behind it (R116). -/
theorem State.endGroupPulse_keepsLimits (s : State) (i : Fin 6) (which : GroupPulse)
    (runs : (s.channel i).pulse which ≠ none) : s.KeepsLimits (s.endGroupPulse i which) := by
  have configured (fits : s.ChannelFits i (s.channel i)) : s.groupRecord i ≠ none := fun unconfigured => by
    obtain ⟨-, trip, close, -⟩ := fits.1 unconfigured
    cases which
    · exact runs trip
    · exact runs close
  have rewritten (c : Channel) (state : c.state = (s.channel i).state) (window : c.window = (s.channel i).window)
      (fits : s.ChannelFits i (s.channel i)) : s.ChannelFits i c := by
    refine ⟨fun unconfigured => absurd unconfigured (configured fits), ?_, ?_⟩
    · rw [state]
      exact fits.2.1
    · rw [state, window]
      exact fits.2.2
  cases which with
  | trip => exact s.setChannel_keepsLimits i _ (rewritten _ rfl rfl)
  | close =>
    cases held : (s.channel i).tripHeld with
    | false =>
      rw [State.endGroupPulse_close held]
      exact s.setChannel_keepsLimits i _ (rewritten _ rfl rfl)
    | true =>
      rw [State.endGroupPulse_held held]
      refine (s.setChannel_keepsLimits i { s.channel i with close := none } (rewritten _ rfl rfl)).trans ?_
      refine State.startTrip_keepsLimits _ i fun fits unconfigured => ?_
      simpa [held] using (fits.1 unconfigured).2.2.2

/-! ### The ladder (R130, R133 to R140, R143) -/

theorem State.commandShed_keepsLimits (s : State) (i : Fin 6) : s.KeepsLimits (s.commandShed i) :=
  (Ladder.set_keepsLimits s _ fun _ => Nat.zero_le 255).trans (State.takeShed_keepsLimits _ i)

theorem State.commandRestore_keepsLimits (s : State) (i : Fin 6) : s.KeepsLimits (s.commandRestore i) :=
  (Ladder.set_keepsLimits s _ fun _ => Nat.zero_le 255).trans (State.takeRestore_keepsLimits _ i)

theorem State.takeStep_keepsLimits (s : State) : s.KeepsLimits s.takeStep := by
  unfold State.takeStep
  split
  · exact s.raise_keepsLimits _
  · split
    · exact s.commandShed_keepsLimits _
    · exact Ladder.set_keepsLimits s _

theorem State.nextStep_keepsLimits (s : State) : s.KeepsLimits s.nextStep :=
  .ite (.refl s) fun _ => (Ladder.set_keepsLimits s _).trans (State.takeStep_keepsLimits _)

theorem State.requestStep_keepsLimits (s : State) : s.KeepsLimits s.requestStep := by
  unfold State.requestStep
  split
  · exact s.takeStep_keepsLimits
  · exact Ladder.set_keepsLimits s _

theorem State.spread_keepsLimits (s : State) : s.KeepsLimits s.spread := by
  refine s.resolve_frame.keepsLimits.trans ?_
  unfold State.spread State.syncLadder
  dsimp only
  split
  · exact Ladder.set_keepsLimits _ _
  · split
    · exact Ladder.set_keepsLimits _ _
    · exact ((Ladder.set_keepsLimits _ _).trans (Ladder.set_keepsLimits _ _)).trans (State.nextStep_keepsLimits _)

theorem State.blockShed_keepsLimits (s : State) (n : TripNotice) : s.KeepsLimits (s.blockShed n) := by
  have sheds (u : State) (es : List LadderEntry) : u.KeepsLimits (u.commandSheds es) :=
    .foldl (fun v (e : LadderEntry) => v.commandShed_keepsLimits e.index) es u
  rw [State.blockShed_eq]
  split
  · exact .refl s
  · split
    · exact (s.raise_keepsLimits _).trans (sheds _ _)
    · exact sheds s _

theorem State.takeTripNotice_keepsLimits (s : State) (n : TripNotice) : s.KeepsLimits (s.takeTripNotice n) := by
  have aborts (u : State) (c : Prop) [Decidable c] : u.KeepsLimits (if c then u else u.abortUnload) := by
    split
    · exact .refl u
    · exact u.abortUnload_keepsLimits
  unfold State.takeTripNotice
  dsimp only
  split
  · split
    · have sheds : s.KeepsLimits (s.blockShed n).startTripRecent :=
        (s.blockShed_keepsLimits n).trans (Duty.set_keepsLimits _ _)
      exact sheds.trans (aborts (s.blockShed n).startTripRecent _)
    · exact aborts s _
  · exact .refl s

theorem State.trip_keepsLimits (s : State) : s.KeepsLimits s.trip := by
  have composes (u : State) : u.KeepsLimits u.flush.resolve :=
    u.flush_keepsLimits.trans (State.resolve_frame _).keepsLimits
  exact ((s.setSetState_keepsLimits _ .tripped).trans (composes _)).trans (State.takeTripNotice_keepsLimits _ _)

theorem State.stepStages_keepsLimits (s : State) (isl : Island) (r : MeterRecord) : s.KeepsLimits (s.stepStages isl r) := by
  unfold State.stepStages
  dsimp only
  split
  · split
    · exact (Ladder.set_keepsLimits s _).trans (State.requestStep_keepsLimits _)
    · exact Ladder.set_keepsLimits s _
  · exact Ladder.set_keepsLimits s _

theorem State.restoreCheck_keepsLimits (s : State) : s.KeepsLimits s.restoreCheck := by
  unfold State.restoreCheck
  dsimp only
  split
  · exact Ladder.set_keepsLimits s _
  · exact .ite (Ladder.set_keepsLimits s _) fun _ => State.commandRestore_keepsLimits _ _

/-! ### A delivered record (R18, R55, R57) -/

/-- A record lies within the ranges of the frame (R55). -/
theorem formRecord_inRanges (m : Measurement) (vNom : Nat) :
    let r := formRecord m vNom
    InRanges r.p r.q r.frequency := by
  intro r
  obtain ⟨p, q, -, -, valid, invalid⟩ := formRecord_spec m vNom
  refine ⟨?_, ?_, ?_⟩
  · rw [p]
    omega
  · rw [q]
    omega
  · cases bus : r.busValid with
    | false => exact .inl (invalid bus)
    | true =>
      have frequency : (r.frequency : Int) = max 40000 (min 65535 m.frequency) := valid bus
      exact .inr (by omega)

theorem State.receiveRecord_keepsLimits (s : State) (r : MeterRecord) (ranges : InRanges r.p r.q r.frequency) :
    s.KeepsLimits (s.receiveRecord r) := by
  refine ⟨id, id, id, fun ⟨config, number, last, _⟩ => ⟨config, number, last, ?_⟩⟩
  rintro _ ⟨⟩
  exact ranges

end Sys2Proof.Machine
end

section
/-! What a command may leave of the alarms, the island view and the ladder where it has not settled the card again (R14, R41
to R51, R126, R127, R177, R178): that what they follow from stands. -/

namespace Sys2Proof.Machine

/-! ### What the island view and the ladder follow from -/

/-- What the island view and the ladder follow from, and the two themselves, but for the filters of the ties. -/
structure Sources where
  config : Option Configuration
  mode : CardMode
  island : Island
  entries : Station → EntryState × Option PeerRecord
  meterFail : Bool
  setState : SetState
  latest : Option MeterRecord
  channels : Fin 6 → Option GroupState
  ladder : List LadderEntry

def State.sources (s : State) : Sources where
  config := s.loader.config
  mode := s.loader.mode
  island := { s.island with tieFilters := .replicate 3 none }
  entries i := ((s.entry i).state, (s.entry i).record)
  meterFail := s.composer.meterFail
  setState := s.seq.state
  latest := s.metering.latest
  channels i := (s.channel i).state
  ladder := s.ladder.entries

/-- Of what the island view and the ladder follow from nothing differs between `s` and `t`. -/
def State.SameSources (s t : State) : Prop := t.sources = s.sources

theorem State.SameSources.refl (s : State) : s.SameSources s := rfl

theorem State.SameSources.trans {s t u : State} (h : s.SameSources t) (k : t.SameSources u) : s.SameSources u :=
  Eq.trans k h

/-- Without a cause of DROOP a running return timer does not depend on the clock (R50). -/
theorem nextSharing_settled {m : SharingMode} {t : Timer} {c : Bool} {now later : Nat}
    (settled : nextSharing m t c now = (m, t)) : nextSharing m t c later = (m, t) := by
  cases c with
  | true => simpa [nextSharing] using settled
  | false => cases m <;> cases t <;> simp_all [nextSharing]

section
variable {s t : State} (h : s.SameSources t)
include h

theorem State.SameSources.config : t.loader.config = s.loader.config := congrArg Sources.config h

theorem State.SameSources.mode : t.loader.mode = s.loader.mode := congrArg Sources.mode h

theorem State.SameSources.island : t.island = { s.island with tieFilters := t.island.tieFilters } :=
  congrArg (fun x => { x.island with tieFilters := t.island.tieFilters }) h

theorem State.SameSources.entries (i : Station) :
    (t.entry i).state = (s.entry i).state ∧ (t.entry i).record = (s.entry i).record :=
  ⟨congrArg (fun x => (x.entries i).1) h, congrArg (fun x => (x.entries i).2) h⟩

theorem State.SameSources.meterFail : t.composer.meterFail = s.composer.meterFail := congrArg Sources.meterFail h

theorem State.SameSources.setState : t.seq.state = s.seq.state := congrArg Sources.setState h

theorem State.SameSources.latest : t.metering.latest = s.metering.latest := congrArg Sources.latest h

theorem State.SameSources.channels (i : Fin 6) : (t.channel i).state = (s.channel i).state :=
  congrArg (fun x => x.channels i) h

theorem State.SameSources.ladder : t.ladder.entries = s.ladder.entries := congrArg Sources.ladder h

theorem State.SameSources.conf : t.conf = s.conf := by rw [State.conf, h.config]; rfl

theorem State.SameSources.own : t.own = s.own := by rw [State.own, h.conf]; rfl

theorem State.SameSources.tieView : t.island.tieView = s.island.tieView := by rw [h.island]

theorem State.SameSources.membersIn (sections : List Nat) : t.membersIn sections = s.membersIn sections := by
  simp only [State.membersIn, PeerEntry.lies, h.own, h.entries]

theorem State.SameSources.disagrees : t.disagrees = s.disagrees := by
  simp only [State.disagrees, h.tieView, h.entries]

theorem State.SameSources.droopCause (members : List Station) (disagree : Bool) :
    t.droopCause members disagree = s.droopCause members disagree := by
  simp only [State.droopCause, State.mode, h.own, h.entries, h.meterFail, h.mode]

theorem State.SameSources.contributions (members : List Station) (mode : SharingMode) :
    t.contributions members mode = s.contributions members mode := by
  have own : t.ownContribution mode = s.ownContribution mode := by
    rw [State.ownContribution, h.own, h.conf, h.setState, h.meterFail, h.island]
    rfl
  have peer (i : Station) : peerContribution i (t.entry i) = peerContribution i (s.entry i) := by
    simp only [peerContribution, h.entries]
  simp only [State.contributions, own, peer, h.own]

theorem State.SameSources.busFrequency : t.busFrequency = s.busFrequency := by rw [State.busFrequency, h.latest]; rfl

/-- A card that is resolved stays so, whatever the clock (R48, R50). -/
theorem State.SameSources.resolved (resolved : s.resolve = s) : t.resolve = t := by
  have sharing : s.sharingNow = (s.island.mode, s.island.returnTimer) :=
    congrArg (fun u : State => (u.island.mode, u.island.returnTimer)) resolved
  have mode : t.island.mode = s.island.mode := by rw [h.island]
  have timer : t.island.returnTimer = s.island.returnTimer := by rw [h.island]
  have later : t.sharingNow = s.sharingNow := by
    rw [sharing, State.sharingNow, h.conf, h.tieView, h.membersIn, h.disagrees, h.droopCause, mode, timer]
    exact nextSharing_settled sharing
  refine State.resolved_of_island ?_
  calc t.resolve.island = { s.resolve.island with tieFilters := t.island.tieFilters } := by
        rw [State.resolve_eq, State.resolve_eq, State.resolveView_eq, State.resolveView_eq, later]
        simp only [State.viewWith, Island.withQuantities, h.conf, h.tieView, h.membersIn, h.disagrees, h.contributions,
          h.busFrequency]
        rw [h.island]
    _ = t.island := by rw [resolved, ← h.island]

theorem State.SameSources.ladderOf : t.ladderOf = s.ladderOf := by
  have peer (i : Station) : peerEntries i (t.entry i) = peerEntries i (s.entry i) := by
    simp only [peerEntries, h.entries]
  have members : t.island.members = s.island.members := by rw [h.island]
  simp only [State.ladderOf, State.ownEntries, h.conf, h.own, h.channels, peer, members]

theorem State.SameSources.islandSafe (safe : s.IslandSafe) : t.IslandSafe := by
  obtain ⟨out, isoch, resolved⟩ := safe
  refine ⟨?_, ?_, fun past => h.resolved (resolved ?_)⟩
  · rw [h.island]
    exact out
  · rw [h.island, h.mode]
    exact isoch
  · rwa [h.mode] at past

theorem State.SameSources.ladderCurrent (current : s.LadderCurrent) : t.LadderCurrent := fun past => by
  rw [h.mode] at past
  rw [h.ladder, h.ladderOf]
  exact current past

theorem State.SameSources.past (past : s.loader.mode ≠ .load) : t.loader.mode ≠ .load := by rwa [h.mode]

end

/-! ### What the alarms follow from -/

/-- The lane interface `x` reports what `l` reported: the same health, and no driver newly disabled (R11, R7). -/
structure LaneIf.SameReports (l x : LaneIf) : Prop where
  health : x.health = l.health
  driver : x.tx = .disabled → l.tx = .disabled

theorem LaneIf.SameReports.refl (l : LaneIf) : l.SameReports l := ⟨rfl, id⟩

theorem LaneIf.SameReports.trans {l x y : LaneIf} (h : l.SameReports x) (k : x.SameReports y) : l.SameReports y :=
  ⟨k.health.trans h.health, h.driver ∘ k.driver⟩

/-- The alarms stand, and so does what they follow from besides the sources. -/
structure State.SameReports (s t : State) : Prop where
  alarms : t.alarms = s.alarms
  linkOk : t.linkOk = s.linkOk
  laneA : s.laneA.SameReports t.laneA
  laneB : s.laneB.SameReports t.laneB
  fault : t.loader.firstFault = s.loader.firstFault

/-- The reports stand where the alarms and the blocks that they follow from do. -/
theorem State.SameReports.of_stands {s t : State}
    (h : (t.alarms, t.linkOk, t.laneA, t.laneB, t.loader.firstFault) = (s.alarms, s.linkOk, s.laneA, s.laneB,
      s.loader.firstFault)) : s.SameReports t := by
  simp only [Prod.mk.injEq] at h
  obtain ⟨alarms, linkOk, laneA, laneB, fault⟩ := h
  exact ⟨alarms, linkOk, laneA ▸ .refl _, laneB ▸ .refl _, fault⟩

theorem State.SameReports.refl (s : State) : s.SameReports s := .of_stands rfl

theorem State.SameReports.trans {s t u : State} (h : s.SameReports t) (k : t.SameReports u) : s.SameReports u :=
  ⟨k.alarms.trans h.alarms, k.linkOk.trans h.linkOk, h.laneA.trans k.laneA, h.laneB.trans k.laneB,
    k.fault.trans h.fault⟩

theorem State.anyPhantom_iff (s : State) : s.anyPhantom = true ↔ ∃ i, (s.entry i).state = .phantom := by
  simp [State.anyPhantom, State.entry, Fin.exists_iff, Vector.any_eq_true]

/-- No kind becomes active where the sources and the reports stand (R177). -/
theorem State.SameReports.active {s t : State} (reports : s.SameReports t) (sources : s.SameSources t) {k : AlarmKind}
    (active : t.active k = true) : s.active k = true := by
  obtain ⟨-, linkOk, laneA, laneB, fault⟩ := reports
  cases k
  case laneA => exact (congrArg (· != LaneHealth.ok) laneA.health).symm.trans active
  case laneB => exact (congrArg (· != LaneHealth.ok) laneB.health).symm.trans active
  case laneADriver => exact beq_iff_eq.2 (laneA.driver (beq_iff_eq.1 active))
  case laneBDriver => exact beq_iff_eq.2 (laneB.driver (beq_iff_eq.1 active))
  case link => exact (congrArg (!·) linkOk).symm.trans active
  case dupId => exact (congrArg (· == CardMode.mute) sources.mode).symm.trans active
  case tieDisagree => exact (congrArg Island.tieDisagree sources.island).symm.trans active
  case phantom =>
    have some : t.anyPhantom = true := active
    simp only [State.anyPhantom_iff, sources.entries] at some
    exact s.anyPhantom_iff.2 some
  case meterFail => exact sources.meterFail.symm.trans active
  case config =>
    have same : t.configFault = s.configFault := by rw [State.configFault, sources.config, fault]; rfl
    exact same.symm.trans active
  all_goals exact active

theorem State.SameReports.alarmsSafe {s t : State} (reports : s.SameReports t) (sources : s.SameSources t)
    (safe : s.AlarmsSafe) : t.AlarmsSafe := by
  obtain ⟨load, past⟩ := safe
  refine ⟨fun m => ?_, fun m => ?_⟩
  · rw [reports.alarms]
    exact load (sources.mode.symm.trans m)
  · obtain ⟨relay, link, latched⟩ := past (by rwa [sources.mode] at m)
    rw [reports.alarms]
    refine ⟨relay, ?_, fun k active => latched k (reports.active sources active)⟩
    rw [reports.linkOk, sources.conf, reports.laneA.health, reports.laneB.health]
    exact link

/-! ### Leaving the card as it follows, settled again or not -/

/-- From `s` to `t` every one of the six invariants is kept, each for itself. -/
structure State.Keeps (s t : State) : Prop where
  counts : s.CountsSafe → t.CountsSafe
  channels : s.ChannelsSafe → t.ChannelsSafe
  composer : s.ComposerSafe → t.ComposerSafe
  alarms : s.AlarmsSafe → t.AlarmsSafe
  island : s.IslandSafe → t.IslandSafe
  ladder : s.LadderCurrent → t.LadderCurrent

theorem State.Keeps.refl (s : State) : s.Keeps s := ⟨id, id, id, id, id, id⟩

theorem State.Keeps.trans {s t u : State} (h : s.Keeps t) (k : t.Keeps u) : s.Keeps u :=
  ⟨k.counts ∘ h.counts, k.channels ∘ h.channels, k.composer ∘ h.composer, k.alarms ∘ h.alarms, k.island ∘ h.island,
    k.ladder ∘ h.ladder⟩

/-- From `s` to `t` the limits are kept and nothing is left to settle. -/
structure State.Quiet (s t : State) : Prop where
  limits : s.KeepsLimits t
  sources : s.SameSources t
  reports : s.SameReports t

theorem State.Quiet.refl (s : State) : s.Quiet s := ⟨.refl s, .refl s, .refl s⟩

theorem State.Quiet.trans {s t u : State} (h : s.Quiet t) (k : t.Quiet u) : s.Quiet u :=
  ⟨h.limits.trans k.limits, h.sources.trans k.sources, h.reports.trans k.reports⟩

theorem State.Quiet.keeps {s t : State} (h : s.Quiet t) : s.Keeps t :=
  ⟨h.limits.counts, h.limits.channels, h.limits.composer, h.reports.alarmsSafe h.sources, h.sources.islandSafe,
    h.sources.ladderCurrent⟩

/-- A settled card past LOAD has the alarms, the island view and the ladder as they follow (R48, R127, R177). -/
theorem State.Settled.keeps {s t : State} (settled : t.Settled) (past : t.loader.mode ≠ .load)
    (counts : s.CountsSafe → t.CountsSafe) (channels : s.ChannelsSafe → t.ChannelsSafe)
    (composer : s.ComposerSafe → t.ComposerSafe) : s.Keeps t := by
  refine ⟨counts, channels, composer, fun _ => ?_, fun _ => ⟨?_, fun isoch => ?_, fun _ => settled.1⟩,
    fun _ _ => settled.2.1⟩
  · obtain ⟨-, -, link, latched, relay⟩ := settled
    exact ⟨fun load => absurd load past, fun _ => ⟨relay, link, latched⟩⟩
  · have out : t.resolve.island.droopOut = decide (t.resolve.island.mode = .droop) := rfl
    rwa [settled.1] at out
  · by_contra quiet
    have droop := (settled.droop_of_mode quiet).1
    rw [isoch] at droop
    contradiction

/-- The end of an event of a card past LOAD: it settles the card, so that the limits alone have to be kept up to there. -/
theorem State.KeepsLimits.finish {s t : State} (h : s.KeepsLimits t) (past : s.loader.mode ≠ .load) :
    s.Keeps t.finish := by
  have ends := h.trans t.finish_keepsLimits
  exact t.finish_settled.keeps (ends.past past) ends.counts ends.channels ends.composer

/-- A settling without a composition (R50). -/
theorem State.KeepsLimits.settle {s t : State} (h : s.KeepsLimits t) (past : s.loader.mode ≠ .load) :
    s.Keeps t.settle := by
  have ends := h.trans t.settle_keepsLimits
  exact t.settle_settled.keeps (ends.past past) ends.counts ends.channels ends.composer

/-- A change of the reports of a card past LOAD, with the alarms taken up (R14, R177). -/
theorem State.SameSources.syncAlarms {s t : State} (sources : s.SameSources t) (limits : s.KeepsLimits t)
    (past : s.loader.mode ≠ .load) : s.Keeps t.syncAlarms := by
  have synced : s.SameSources t.syncAlarms := sources.trans rfl
  have ends := limits.trans (State.syncAlarms_frame t).keepsLimits
  refine ⟨ends.counts, ends.channels, ends.composer, fun _ => ?_, synced.islandSafe, synced.ladderCurrent⟩
  refine ⟨fun load => absurd load (synced.past past), fun _ => ⟨State.relay_latchThose _ _, rfl, fun k active => ?_⟩⟩
  exact (t.mem_syncAlarms k).2 (.inr active)

end Sys2Proof.Machine
end

section
/-! Every command keeps the counts, the channels and what a frame is composed from within their limits, and leaves the alarms,
the island view and the ladder as they follow from the rest: a command either settles the card at the end of its event, or
leaves nothing to settle. -/

namespace Sys2Proof.Machine

/-! ### Taking a command -/

/-- Whatever state a command leaves, every invariant of `s` is kept. -/
def State.KeepsIn (s : State) (r : Result) : Prop := ∀ t, r = .next t → s.Keeps t

theorem State.Keeps.next {s t : State} (h : s.Keeps t) : s.KeepsIn (.next t) := by
  rintro _ ⟨⟩
  exact h

/-- A card that takes a command stands past LOAD (R165, R171). -/
theorem State.past_of_awake {s : State} (awake : s.awake = true) : s.loader.mode ≠ .load := by
  simp_all [State.awake, State.mode]

theorem State.Keeps.ite {s t u : State} {c : Prop} [Decidable c] (h : c → s.Keeps t) (k : ¬ c → s.Keeps u) :
    s.Keeps (if c then t else u) := by
  split
  · next holds => exact h holds
  · next fails => exact k fails

theorem whileAwake_keeps {s : State} {f : State → State} (h : s.loader.mode ≠ .load → s.Keeps (f s)) :
    s.KeepsIn (whileAwake s f) :=
  (State.Keeps.ite (fun awake => h (State.past_of_awake awake)) fun _ => .refl s).next

/-- Time passes: the clock alone moves, with what the lanes have sent (log entry 3). -/
theorem State.advanceTo_quiet (s : State) (d : Nat) : s.Quiet (s.advanceTo d) := by
  have counts (l : LaneIf) : l.SameReports (l.countBytes (max s.now d)) := by
    unfold LaneIf.countBytes
    split <;> exact ⟨rfl, id⟩
  exact ⟨s.advanceTo_keepsLimits d, rfl, ⟨rfl, rfl, counts _, counts _, rfl⟩⟩

theorem onExpiry_keeps {s : State} {t : Timer} {f : State → State}
    (h : s.loader.mode ≠ .load → ∀ d, t = some d → (s.advanceTo d).Keeps (f (s.advanceTo d))) :
    s.KeepsIn (onExpiry s t f) := by
  unfold onExpiry
  split
  · exact (State.Keeps.refl s).next
  · next d =>
    refine (State.Keeps.ite (fun awake => ?_) fun _ => .refl s).next
    exact (s.advanceTo_quiet d).keeps.trans (h (State.past_of_awake awake) d rfl)

/-- The expiry of a timer that ends in the end of an event. -/
theorem onExpiry_finish_keeps {s : State} {t : Timer} {f : State → State} (h : ∀ u : State, u.KeepsLimits (f u)) :
    s.KeepsIn (onExpiry s t fun u => (f u).finish) :=
  onExpiry_keeps fun past d _ => (h (s.advanceTo d)).finish past

/-- The expiry of a timer that leaves nothing to settle. -/
theorem onExpiry_quiet_keeps {s : State} {t : Timer} {f : State → State} (h : ∀ u : State, u.Quiet (f u)) :
    s.KeepsIn (onExpiry s t f) := onExpiry_keeps fun _ d _ => (h (s.advanceTo d)).keeps

/-- An input's level alone (R75, R111). -/
theorem Pins.set_quiet (s : State) (p : Pins) : s.Quiet { s with pins := p } :=
  ⟨(Pins.set_frame s p).keepsLimits, rfl, .of_stands rfl⟩

/-- An edge of an input, taken past LOAD. -/
theorem State.edge_keeps {s : State} {p : Pins} {c : Prop} [Decidable c] {f : State → State}
    (keeps : ∀ u : State, u.KeepsLimits (f u)) (past : c → s.loader.mode ≠ .load) :
    s.Keeps (if c then (f { s with pins := p }).finish else { s with pins := p }) :=
  .ite (fun takes => ((Pins.set_quiet s p).limits.trans (keeps _)).finish (past takes)) fun _ => (Pins.set_quiet s p).keeps

/-! ### The lane interfaces (Section 1) -/

/-- The lane interface `x` counts within the limits where `l` does, and reports what `l` reports. -/
structure LaneIf.Calm (l x : LaneIf) : Prop where
  counted : l.Counted → x.Counted
  reports : l.SameReports x

theorem LaneIf.Calm.trans {l x y : LaneIf} (h : l.Calm x) (k : x.Calm y) : l.Calm y :=
  ⟨k.counted ∘ h.counted, h.reports.trans k.reports⟩

theorem LaneIf.enterDefer_calm (l : LaneIf) (now : Nat) : l.Calm (l.enterDefer now) := by
  refine ⟨fun h => h.enterDefer now, ?_⟩
  unfold LaneIf.enterDefer
  split
  · exact ⟨rfl, nofun⟩
  · exact ⟨rfl, nofun⟩

theorem LaneIf.enterSend_calm (l : LaneIf) (now : Nat) : l.Calm (l.enterSend now) :=
  ⟨fun h => ⟨h.good, h.check, h.collisions, h.drops, h.replaced, h.errors⟩, rfl, nofun⟩

theorem LaneIf.complete_calm (l : LaneIf) (now : Nat) : l.Calm (l.complete now) := by
  unfold LaneIf.complete
  dsimp only
  split
  · exact ⟨fun h => ⟨h.good, h.check, h.collisions, h.drops, h.replaced, h.errors⟩, rfl, nofun⟩
  · refine .trans ⟨fun h => ?_, ?_⟩ (LaneIf.enterDefer_calm _ now)
    · exact ⟨h.good, h.check, h.collisions, h.drops, h.replaced, h.errors⟩
    · exact ⟨rfl, id⟩

theorem LaneIf.collide_calm (l : LaneIf) (now : Nat) : l.Calm (l.collide now) :=
  ⟨fun h => ⟨h.good, h.check, bump_le _, h.drops, h.replaced, h.errors⟩, rfl, id⟩

theorem LaneIf.endJam_calm (l : LaneIf) (own : Station) (now : Nat) : l.Calm (l.endJam own now) := by
  unfold LaneIf.endJam
  dsimp only
  split
  · split
    · exact ⟨fun h => ⟨h.good, h.check, h.collisions, bump_le _, h.replaced, h.errors⟩, rfl, nofun⟩
    · refine .trans ⟨fun h => ?_, ?_⟩ (LaneIf.enterDefer_calm _ now)
      · exact ⟨h.good, h.check, h.collisions, bump_le _, h.replaced, h.errors⟩
      · exact ⟨rfl, id⟩
  · split
    · exact ⟨fun h => ⟨h.good, h.check, h.collisions, h.drops, h.replaced, h.errors⟩, rfl, nofun⟩
    · exact ⟨fun h => ⟨h.good, h.check, h.collisions, h.drops, bump_le _, h.errors⟩, rfl, nofun⟩

theorem LaneIf.endReception_calm (l : LaneIf) (now : Nat) : l.Calm (l.endReception now) := by
  unfold LaneIf.endReception
  split <;> exact ⟨fun h => ⟨h.good, h.check, h.collisions, h.drops, h.replaced, h.errors⟩, rfl, id⟩

theorem LaneIf.countBad_calm (l : LaneIf) : l.Calm l.countBad :=
  ⟨fun h => ⟨h.good, bump_le _, h.collisions, h.drops, h.replaced, bump8_le _⟩, rfl, id⟩

theorem State.setLane_sources (s : State) (l : LaneId) (x : LaneIf) : s.SameSources (s.setLane l x) := by
  cases l <;> rfl

theorem State.setLane_quiet (s : State) (l : LaneId) (x : LaneIf) (calm : (s.lane l).Calm x) : s.Quiet (s.setLane l x) := by
  refine ⟨s.setLane_keepsLimits l x calm.counted, s.setLane_sources l x, ?_⟩
  cases l with
  | a => exact ⟨rfl, rfl, calm.reports, .refl _, rfl⟩
  | b => exact ⟨rfl, rfl, .refl _, calm.reports, rfl⟩

/-- A lane interface rewritten, with the alarms taken up (R11, R14). -/
theorem State.setLane_syncAlarms_keeps {s : State} {l : LaneId} {x : LaneIf} (past : s.loader.mode ≠ .load)
    (counted : (s.lane l).Counted → x.Counted) : s.Keeps (s.setLane l x).syncAlarms :=
  (s.setLane_sources l x).syncAlarms (s.setLane_keepsLimits l x counted) past

theorem State.hearPeer_sources (s : State) (l : LaneId) : s.SameSources (s.hearPeer l) := by
  unfold State.hearPeer
  dsimp only
  split
  · exact (s.setLane_sources l _).trans (State.setLane_sources _ _ _)
  · exact s.setLane_sources l _

theorem State.queueFrame_sources (s : State) (l : LaneId) (f : Frame) : s.SameSources (s.queueFrame l f) := by
  unfold State.queueFrame
  split <;> rfl

/-- A change of the card mode past LOAD (R167 to R169). -/
theorem State.setMode_keepsLimits {s : State} {m : CardMode} (past : s.loader.mode ≠ .load) (enters : m ≠ .load) :
    s.KeepsLimits { s with loader := { s.loader with mode := m, listenTimer := none } } := by
  refine ⟨fun _ => enters, id, fun ⟨_, channels⟩ => ⟨fun load => absurd load enters, fun i => ?_⟩,
    fun ⟨config, rest⟩ => ⟨fun _ => config past, rest⟩⟩
  obtain ⟨blank, state, window⟩ := channels i
  exact ⟨blank, fun _ => state past, window⟩

/-- A duplicate of the own identity takes the card from LISTEN to MUTE, and is reported in RUN (R9, R167). -/
theorem State.takeDuplicate_syncAlarms_keeps {s : State} (past : s.loader.mode ≠ .load) :
    s.Keeps s.takeDuplicate.syncAlarms := by
  have stands : s.Keeps s.syncAlarms := (State.SameSources.refl s).syncAlarms (.refl s) past
  unfold State.takeDuplicate
  split
  · rw [State.enterMute, State.finish_syncAlarms]
    exact (State.setMode_keepsLimits past (by decide)).finish past
  · exact State.SameSources.syncAlarms (t := s.raise .dupId) rfl (s.raise_keepsLimits _) past
  · exact stands
  · exact stands

theorem State.takeGoodFrame_syncAlarms_keeps {s : State} (l : LaneId) (f : Frame) (inSend : Bool)
    (past : s.loader.mode ≠ .load) : s.Keeps (s.takeGoodFrame l f inSend).syncAlarms := by
  have counts : s.Quiet (s.setLane l { s.lane l with goodFrames := bump (s.lane l).goodFrames }) :=
    s.setLane_quiet l _ ⟨fun h => ⟨bump_le _, h.check, h.collisions, h.drops, h.replaced, h.errors⟩, rfl, id⟩
  have still := counts.sources.past past
  unfold State.takeGoodFrame
  dsimp only
  refine counts.keeps.trans ?_
  split
  · split
    · exact (State.SameSources.refl _).syncAlarms (.refl _) still
    · exact State.takeDuplicate_syncAlarms_keeps still
  · exact ((State.hearPeer_sources _ l).trans (State.queueFrame_sources _ l f)).syncAlarms
      ((State.hearPeer_keepsLimits _ l).trans (State.queueFrame_keepsLimits _ l f)) still

theorem execReceptionEnd_keeps (l : LaneId) (rx : Reception) (s : State) : s.KeepsIn (execReceptionEnd l rx s) := by
  refine whileAwake_keeps fun past => .ite (fun _ => .refl s) fun _ => ?_
  have ends := s.setLane_quiet l _ ((s.lane l).endReception_calm s.now)
  refine ends.keeps.trans (.ite (fun _ => .refl _) fun _ => ?_)
  split
  · exact (State.setLane_quiet _ l _ (LaneIf.countBad_calm _)).keeps
  · exact State.takeGoodFrame_syncAlarms_keeps l _ _ (ends.sources.past past)

/-- A command that rewrites a lane interface at an instant of its own, with nothing to settle. -/
theorem State.advanceTo_setLane_keeps {s : State} {d : Nat} {l : LaneId} {x : LaneIf}
    (calm : ((s.advanceTo d).lane l).Calm x) : s.Keeps ((s.advanceTo d).setLane l x) :=
  ((s.advanceTo_quiet d).trans (State.setLane_quiet _ l x calm)).keeps

theorem execReceptionBegins_keeps (l : LaneId) (s : State) : s.KeepsIn (execReceptionBegins l s) := by
  refine whileAwake_keeps fun _ => ?_
  split
  · exact .refl s
  · refine .ite (fun _ => .refl s) fun _ => State.advanceTo_setLane_keeps ⟨fun h => ?_, rfl, id⟩
    exact ⟨h.good, h.check, h.collisions, h.drops, h.replaced, h.errors⟩

theorem execSendStart_keeps (l : LaneId) (s : State) : s.KeepsIn (execSendStart l s) := by
  refine whileAwake_keeps fun _ => ?_
  split
  · exact .ite (fun _ => .refl s) fun _ => State.advanceTo_setLane_keeps (LaneIf.enterSend_calm _ _)
  · exact .refl s

theorem execFrameComplete_keeps (l : LaneId) (s : State) : s.KeepsIn (execFrameComplete l s) := by
  refine whileAwake_keeps fun _ => ?_
  split
  · exact .refl s
  · exact State.advanceTo_setLane_keeps (LaneIf.complete_calm _ _)

theorem execCollision_keeps (l : LaneId) (s : State) : s.KeepsIn (execCollision l s) :=
  whileAwake_keeps fun _ => .ite (fun _ => (s.setLane_quiet l _ (LaneIf.collide_calm _ _)).keeps) fun _ => .refl s

theorem execStuckEntry_keeps (l : LaneId) (began : Bool) (s : State) : s.KeepsIn (execStuckEntry l began s) := by
  refine whileAwake_keeps fun past => .ite (fun _ => .refl s) fun _ => State.setLane_syncAlarms_keeps past fun h => ?_
  have stuck (x : LaneIf) (same : x = { s.lane l with stuck := true, receiving := false, ownEnd := false
                                                      quietFrom := .notIdle }) : x.Counted := by
    rw [same]
    exact ⟨h.good, h.check, h.collisions, h.drops, h.replaced, h.errors⟩
  split
  · exact (stuck _ rfl).startTest s.now
  · exact stuck _ rfl

theorem execDriverTestLaneIdle_keeps (l : LaneId) (s : State) : s.KeepsIn (execDriverTestLaneIdle l s) := by
  refine whileAwake_keeps fun past => .ite (fun _ => State.setLane_syncAlarms_keeps past fun h => ?_) fun _ => .refl s
  exact ⟨h.good, h.check, h.collisions, h.drops, h.replaced, h.errors⟩

theorem execIsolatedLaneIdle_keeps (l : LaneId) (s : State) : s.KeepsIn (execIsolatedLaneIdle l s) := by
  refine whileAwake_keeps fun _ => .ite (fun _ => (s.setLane_quiet l _ ?_).keeps) fun _ => .refl s
  split
  · refine .trans ⟨fun h => ?_, ?_⟩ (LaneIf.enterDefer_calm _ s.now)
    · exact ⟨h.good, h.check, h.collisions, h.drops, h.replaced, h.errors⟩
    · exact ⟨rfl, id⟩
  · exact ⟨fun h => ⟨h.good, h.check, h.collisions, h.drops, h.replaced, h.errors⟩, rfl, nofun⟩

theorem execStuckEnd_keeps (l : LaneId) (s : State) : s.KeepsIn (execStuckEnd l s) := by
  refine whileAwake_keeps fun past => .ite (fun _ => State.setLane_syncAlarms_keeps past fun h => ?_) fun _ => .refl s
  have free (x : LaneIf) (same : x = { s.lane l with stuck := false, quietFrom := .since s.now }) : x.Counted := by
    rw [same]
    exact ⟨h.good, h.check, h.collisions, h.drops, h.replaced, h.errors⟩
  split
  · exact (free _ rfl).enterDefer s.now
  · exact free _ rfl

theorem execJamEnd_keeps (l : LaneId) (s : State) : s.KeepsIn (execJamEnd l s) :=
  onExpiry_quiet_keeps fun u => u.setLane_quiet l _ (LaneIf.endJam_calm _ _ _)

theorem execBackoffExpiry_keeps (l : LaneId) (s : State) : s.KeepsIn (execBackoffExpiry l s) := by
  refine onExpiry_quiet_keeps fun u => u.setLane_quiet l _ (.trans ⟨fun h => ?_, ?_⟩ (LaneIf.enterDefer_calm _ _))
  · exact ⟨h.good, h.check, h.collisions, h.drops, h.replaced, h.errors⟩
  · exact ⟨rfl, id⟩

theorem execDriverTestExpiry_keeps (l : LaneId) (s : State) : s.KeepsIn (execDriverTestExpiry l s) :=
  onExpiry_quiet_keeps fun u => u.setLane_quiet l _
    ⟨fun h => ⟨h.good, h.check, h.collisions, h.drops, h.replaced, h.errors⟩, rfl, id⟩

theorem execErrorWindowExpiry_keeps (l : LaneId) (s : State) : s.KeepsIn (execErrorWindowExpiry l s) :=
  onExpiry_keeps fun past d _ => State.setLane_syncAlarms_keeps (s := s.advanceTo d) past fun h =>
    ⟨h.good, h.check, h.collisions, h.drops, h.replaced, Nat.zero_le 255⟩

theorem execSilenceTimerExpiry_keeps (l : LaneId) (s : State) : s.KeepsIn (execSilenceTimerExpiry l s) :=
  onExpiry_keeps fun past d _ => State.setLane_syncAlarms_keeps (s := s.advanceTo d) past fun h =>
    ⟨h.good, h.check, h.collisions, h.drops, h.replaced, h.errors⟩

theorem execFrameTimerExpiry_keeps (s : State) : s.KeepsIn (execFrameTimerExpiry s) :=
  onExpiry_finish_keeps fun u => .trans (t := { u with composer := { u.composer with frameTimer := u.after framePeriod } })
    ⟨id, id, id, id⟩ (State.request_keepsLimits _ _)

theorem execSpacingTimerExpiry_keeps (s : State) : s.KeepsIn (execSpacingTimerExpiry s) :=
  onExpiry_finish_keeps fun _ => ⟨id, id, id, id⟩

/-! ### The peers and the ties (Sections 2 and 3) -/

theorem State.setEntry_keepsLimits (s : State) (i : Station) (e : PeerEntry) (counted : (s.entry i).Counted → e.Counted) :
    s.KeepsLimits (s.setEntry i e) := by
  refine ⟨id, State.Counted.keeps fun h => { h with entries := fun j => ?_ }, id, id⟩
  by_cases same : i = j
  · subst same
    rw [State.entry_setEntry]
    exact counted (h.entries i)
  · rw [State.entry_setEntry_ne s e same]
    exact h.entries j

/-- An entry rewritten in its counters, its timer or the lanes heard (R31, R37). -/
theorem State.setEntry_quiet (s : State) (i : Station) (e : PeerEntry) (counted : (s.entry i).Counted → e.Counted)
    (state : e.state = (s.entry i).state) (record : e.record = (s.entry i).record) : s.Quiet (s.setEntry i e) := by
  have stands (j : Station) : (((s.setEntry i e).entry j).state, ((s.setEntry i e).entry j).record)
      = ((s.entry j).state, (s.entry j).record) := by
    by_cases same : i = j
    · subst same
      rw [State.entry_setEntry, state, record]
    · rw [State.entry_setEntry_ne s e same]
  exact ⟨s.setEntry_keepsLimits i e counted, congrArg (fun x => ({ s.sources with entries := x } : Sources)) (funext stands), .of_stands rfl⟩

theorem PeerEntry.Counted.hear {e : PeerEntry} (h : e.Counted) (l : LaneId) (now : Nat) : (e.hear l now).Counted := by
  cases l <;> exact h

/-- A discarded frame is counted at its entry and card-wide (R37). -/
theorem State.counted_quiet {s : State} {i : Station} {x : PeerEntry} {late dual : Nat}
    (counted : (s.entry i).Counted → x.Counted) (state : x.state = (s.entry i).state) (record : x.record = (s.entry i).record)
    (within : s.peers.lateFrames ≤ 65535 ∧ s.peers.dualCopies ≤ 65535 → late ≤ 65535 ∧ dual ≤ 65535) :
    s.Quiet (s.counted i x late dual) :=
  (s.setEntry_quiet i x counted state record).trans
    ⟨⟨id, State.Counted.keeps fun h => { h with discarded := within h.discarded }, id, id⟩, rfl, .of_stands rfl⟩

theorem State.takeUp_keepsLimits (s : State) (n : Option TripNotice) : s.KeepsLimits (s.takeUp n) := by
  cases n with
  | none => exact s.spread_keepsLimits
  | some n => exact s.spread_keepsLimits.trans (State.takeTripNotice_keepsLimits _ n)

theorem State.takeIn_keeps {s : State} (l : LaneId) (f : Frame) (past : s.loader.mode ≠ .load) : s.Keeps (s.takeIn l f) := by
  cases decided : verdict (s.entry f.station) f.number with
  | accepted =>
    rw [State.takeIn_accepted decided]
    refine ((s.setEntry_keepsLimits _ _ fun h => ?_).trans (State.takeUp_keepsLimits _ _)).finish past
    exact PeerEntry.Counted.hear (e := (s.entry f.station).accept f s.now) h l s.now
  | dualCopy =>
    rw [State.takeIn_dualCopy decided]
    refine State.Quiet.keeps (State.counted_quiet (fun h => ?_) (PeerEntry.hear_state _ _ _) (PeerEntry.hear_record _ _ _)
      fun h => ⟨h.1, bump_le _⟩)
    exact .hear (e := { s.entry f.station with dualCopies := bump (s.entry f.station).dualCopies }) ⟨h.1, bump_le _⟩ l s.now
  | lateFrame =>
    rw [State.takeIn_lateFrame decided]
    refine State.Quiet.keeps (State.counted_quiet (fun h => ?_) (PeerEntry.hear_state _ _ _) (PeerEntry.hear_record _ _ _)
      fun h => ⟨bump_le _, h.2⟩)
    exact .hear (e := { s.entry f.station with lateFrames := bump (s.entry f.station).lateFrames }) ⟨bump_le _, h.2⟩ l s.now

theorem State.dequeued_quiet (s : State) (rest : List (LaneId × Frame)) : s.Quiet (s.dequeued rest) :=
  (s.advanceTo_quiet _).trans ⟨⟨id, State.Counted.keeps fun h => { h with }, id, id⟩, rfl, .of_stands rfl⟩

theorem execIntake_keeps (s : State) : s.KeepsIn (execIntake s) := by
  refine whileAwake_keeps fun past => ?_
  split
  · exact .refl s
  · next l f rest _ => exact (s.dequeued_quiet rest).keeps.trans (State.takeIn_keeps l f past)

theorem PeerEntry.Counted.expire {e : PeerEntry} (h : e.Counted) : e.expire.Counted := by
  unfold PeerEntry.expire PeerEntry.lose
  split
  · split <;> exact h
  all_goals exact h

theorem execEntryTimer350_keeps (i : Station) (s : State) : s.KeepsIn (execEntryTimer350 i s) :=
  onExpiry_finish_keeps fun u => (u.setEntry_keepsLimits i _ (by exact id)).trans (State.spread_keepsLimits _)

theorem execEntryTimer1000_keeps (i : Station) (s : State) : s.KeepsIn (execEntryTimer1000 i s) :=
  onExpiry_finish_keeps fun u => (u.setEntry_keepsLimits i _ .expire).trans (State.spread_keepsLimits _)

theorem execLanesHeardExpiry_keeps (i : Station) (l : LaneId) (s : State) : s.KeepsIn (execLanesHeardExpiry i l s) := by
  refine onExpiry_quiet_keeps fun u => u.setEntry_quiet i _ ?_ ?_ ?_ <;> cases l
  · exact id
  · exact id
  all_goals rfl

theorem State.setFilter_quiet (s : State) (tie : Fin 3) (t : Timer) : s.Quiet (s.setFilter tie t) :=
  ⟨⟨id, id, id, id⟩, rfl, .of_stands rfl⟩

theorem execTieInputChange_keeps (tie : Fin 3) (closed : Bool) (s : State) : s.KeepsIn (execTieInputChange tie closed s) := by
  unfold execTieInputChange
  split
  · exact (State.Keeps.refl s).next
  · refine State.Keeps.next ((Pins.set_quiet s _).keeps.trans (.ite (fun _ => ?_) fun _ => .refl _))
    exact .ite (fun _ => (State.setFilter_quiet _ tie _).keeps) fun _ => (State.setFilter_quiet _ tie _).keeps

theorem execTieFilterExpiry_keeps (tie : Fin 3) (s : State) : s.KeepsIn (execTieFilterExpiry tie s) :=
  onExpiry_finish_keeps fun u => .trans (t := { u.setFilter tie none with island :=
    { (u.setFilter tie none).island with tieView := u.island.tieView.set tie u.pins.ties[tie] } })
    ⟨id, id, id, id⟩ (State.spread_keepsLimits _)

theorem execReturnTimerExpiry_keeps (s : State) : s.KeepsIn (execReturnTimerExpiry s) :=
  onExpiry_keeps fun past _ _ => State.KeepsLimits.settle ⟨id, id, id, id⟩ past

end Sys2Proof.Machine
end

section
/-! The counts, the channels, the composer, the alarms, the island view and the ladder through the other commands, and through
every step. -/

namespace Sys2Proof.Machine

/-! ### The own set and the duty logic (Sections 5 and 6) -/

/-- A change of the sequencer that leaves the own set state. -/
theorem Sequencer.set_quiet (s : State) (q : Sequencer) (state : q.state = s.seq.state := by rfl) : s.Quiet { s with seq := q } :=
  ⟨(Sequencer.set_frame s q).keepsLimits, congrArg (fun x => ({ s.sources with setState := x } : Sources)) state, .of_stands rfl⟩

theorem State.breakerCloses_keepsLimits (s : State) : s.KeepsLimits s.breakerCloses := by
  rcases s.breakerCloses_cases with e | e <;> rw [e]
  · exact s.setSetState_keepsLimits _ _
  · exact .refl s

theorem State.breakerOpens_keepsLimits (s : State) : s.KeepsLimits s.breakerOpens := by
  rcases s.breakerOpens_cases with e | e | e <;> rw [e]
  · exact s.trip_keepsLimits
  · exact s.issueStop_frame.keepsLimits.trans (State.setSetState_keepsLimits _ _ _)
  · exact .refl s

theorem State.availableEdge_keepsLimits (high : Bool) (s : State) :
    s.KeepsLimits (if high then s.availableRises else s.availableFalls) := by
  split
  · rcases s.availableRises_cases with e | e <;> rw [e]
    · exact s.setSetState_keepsLimits s.seq _
    · exact .refl s
  · rcases s.availableFalls_cases with e | e | e <;> rw [e]
    · exact s.setSetState_keepsLimits s.seq _
    · exact s.setSetState_keepsLimits _ _
    · exact .refl s

theorem State.unloadRises_keepsLimits (s : State) : s.KeepsLimits s.unloadRises := by
  rcases s.unloadRises_cases with e | ⟨q, e⟩ | e <;> rw [e]
  · exact s.judgeUnload_keepsLimits
  · exact (Sequencer.set_frame s q).keepsLimits
  · exact .refl s

theorem execBreakerCloseEdge_keeps (s : State) : s.KeepsIn (execBreakerCloseEdge s) := by
  unfold execBreakerCloseEdge
  split
  · exact (State.Keeps.refl s).next
  · exact (State.edge_keeps State.breakerCloses_keepsLimits State.past_of_awake).next

theorem execBreakerOpenEdge_keeps (s : State) : s.KeepsIn (execBreakerOpenEdge s) := by
  unfold execBreakerOpenEdge
  split
  · exact (State.edge_keeps State.breakerOpens_keepsLimits State.past_of_awake).next
  · exact (State.Keeps.refl s).next

theorem execRunningEdge_keeps (high : Bool) (s : State) : s.KeepsIn (execRunningEdge high s) := by
  unfold execRunningEdge
  split
  · exact (State.Keeps.refl s).next
  · refine State.Keeps.next ((Pins.set_quiet s _).keeps.trans (.ite (fun _ => ?_) fun _ => .refl _))
    exact (Sequencer.set_quiet _ _).keeps

theorem execAvailableEdge_keeps (high : Bool) (s : State) : s.KeepsIn (execAvailableEdge high s) := by
  unfold execAvailableEdge
  split
  · exact (State.Keeps.refl s).next
  · exact (State.edge_keeps (State.availableEdge_keepsLimits high) State.past_of_awake).next

theorem execUnloadEdge_keeps (high : Bool) (s : State) : s.KeepsIn (execUnloadEdge high s) := by
  unfold execUnloadEdge
  split
  · exact (State.Keeps.refl s).next
  · exact (State.edge_keeps State.unloadRises_keepsLimits fun takes => State.past_of_awake takes.1).next

theorem State.endSetPulse_quiet (s : State) (which : SetPulse) : s.Quiet (s.endSetPulse which) := by
  unfold State.endSetPulse
  split
  · split <;> exact Sequencer.set_quiet s _
  all_goals exact Sequencer.set_quiet s _

theorem execStartTimerExpiry_keeps (s : State) : s.KeepsIn (execStartTimerExpiry s) :=
  onExpiry_finish_keeps fun u => (u.setSetState_keepsLimits _ _).trans (State.raise_keepsLimits _ _)

theorem execUnloadTimerExpiry_keeps (s : State) : s.KeepsIn (execUnloadTimerExpiry s) :=
  onExpiry_finish_keeps fun u => (u.setSetState_keepsLimits _ _).trans (State.raise_keepsLimits _ _)

theorem execOpeningTimerExpiry_keeps (s : State) : s.KeepsIn (execOpeningTimerExpiry s) :=
  onExpiry_finish_keeps fun u => (u.setSetState_keepsLimits _ _).trans (State.raise_keepsLimits _ _)

theorem execEvaluation_keeps (s : State) : s.KeepsIn (execEvaluation s) :=
  onExpiry_finish_keeps fun u => (Duty.set_keepsLimits u { u.duty with evaluation := u.after evaluationPeriod }).trans
    (State.evaluate_keepsLimits _)

theorem execTripRecentTimerExpiry_keeps (s : State) : s.KeepsIn (execTripRecentTimerExpiry s) :=
  onExpiry_quiet_keeps fun u => ⟨Duty.set_keepsLimits u { u.duty with tripRecent := none }, rfl, .of_stands rfl⟩

/-! ### The metering (Section 4) -/

/-- A change of the metering's timer or warm-up count. -/
theorem Metering.set_quiet (s : State) (m : Metering) (latest : m.latest = s.metering.latest := by rfl) :
    s.Quiet { s with metering := m } := by
  refine ⟨⟨id, id, id, fun ⟨config, number, last, record⟩ => ⟨config, number, last, ?_⟩⟩,
    congrArg (fun x => ({ s.sources with latest := x } : Sources)) latest, .of_stands rfl⟩
  rw [show State.metering { s with metering := m } = m from rfl, latest]
  exact record

theorem State.deliver_keeps {s : State} {r : MeterRecord} (past : s.loader.mode ≠ .load)
    (ranges : InRanges r.p r.q r.frequency) : s.Keeps (s.deliver r) := by
  refine (((s.receiveRecord_keepsLimits r ranges).trans ?_).trans (State.stepStages_keepsLimits _ _ r)).finish past
  exact (Regulator.set_frame _ _).keepsLimits.trans (State.takeNotice_keepsLimits _ _)

theorem execMeteringIntervalExpiry_keeps (m : Measurement) (s : State) : s.KeepsIn (execMeteringIntervalExpiry m s) := by
  refine onExpiry_keeps fun past d _ => ?_
  have restarts : (s.advanceTo d).Quiet { s.advanceTo d with metering :=
      { s.metering with interval := (s.advanceTo d).after meteringInterval } } := Metering.set_quiet _ _
  refine restarts.keeps.trans (.ite (fun _ => .ite (fun _ => (Metering.set_quiet _ _).keeps) fun _ => ?_)
    fun _ => .refl _)
  exact State.deliver_keeps past (formRecord_inRanges m s.conf.vNom)

/-! ### The groups and the ladder (Sections 7 and 8) -/

theorem execFeedbackEdge_keeps (i : Fin 6) (closed : Bool) (s : State) : s.KeepsIn (execFeedbackEdge i closed s) := by
  unfold execFeedbackEdge
  split
  · exact (State.Keeps.refl s).next
  · exact (State.edge_keeps (State.takeEdge_keepsLimits i closed) State.past_of_awake).next

theorem State.setChannel_quiet (s : State) (i : Fin 6) (c : Channel)
    (fits : s.ChannelFits i (s.channel i) → s.ChannelFits i c) (state : c.state = (s.channel i).state := by rfl) :
    s.Quiet (s.setChannel i c) := by
  have stands (j : Fin 6) : ((s.setChannel i c).channel j).state = (s.channel j).state := by
    by_cases same : i = j
    · subst same
      rw [State.channel_setChannel]
      exact state
    · rw [State.channel_setChannel_ne s c same]
  exact ⟨s.setChannel_keepsLimits i c fits, congrArg (fun x => ({ s.sources with channels := x } : Sources)) (funext stands), .of_stands rfl⟩

/-- A pending group whose window expires enters FAILED; a window over no pending command would stop alone (R113, R115). -/
theorem execConfirmationWindowExpiry_keeps (i : Fin 6) (s : State) : s.KeepsIn (execConfirmationWindowExpiry i s) := by
  refine onExpiry_keeps fun past d _ => ?_
  dsimp only
  split
  · next unasked =>
    have unpended : ((s.advanceTo d).channel i).state.bind GroupState.pendingCommand = none := by
      rwa [State.channel_setChannel] at unasked
    refine State.Quiet.keeps (State.setChannel_quiet _ i _ fun fits => ⟨fits.1, fits.2.1, ?_⟩)
    constructor
    · simp
    · rintro (pending | pending)
      all_goals
        rw [show ((s.advanceTo d).channel i).state = _ from pending] at unpended
        cases unpended
  · next c asked =>
    rw [State.channel_setChannel] at asked
    have pended : ((s.advanceTo d).channel i).state ≠ none := by
      intro blank
      rw [show Channel.state _ = _ from blank] at asked
      cases asked
    refine ((State.setChannel_groupState_keepsLimits _ i _ (.failed c) fun fits => ?_).trans
      (State.raise_keepsLimits _ .groupFail)).finish past
    exact .of_configured (fits.configured pended) (by simp) (by simp)

/-- An operation on the group channels that leaves every group's state. -/
theorem State.KeepsLimits.quiet {s t : State} (limits : s.KeepsLimits t) (frame : s.keepsBut t [.groups])
    (states : ∀ j, (t.channel j).state = (s.channel j).state) : s.Quiet t := by
  have loader : t.loader = s.loader := frame .loader (by decide)
  have peers : t.peers = s.peers := frame .peers (by decide)
  have island : t.island = s.island := frame .island (by decide)
  have composer : t.composer = s.composer := frame .composer (by decide)
  have seq : t.seq = s.seq := frame .seq (by decide)
  have metering : t.metering = s.metering := frame .metering (by decide)
  have ladder : t.ladder = s.ladder := frame .ladder (by decide)
  refine ⟨limits, ?_, .of_stands ?_⟩
  · simp only [State.SameSources, State.sources, State.entry, loader, peers, island, composer, seq, metering, ladder, states]
  · rw [frame .alarms (by decide), frame .linkOk (by decide), frame .laneA (by decide), frame .laneB (by decide), loader]

theorem State.endGroupPulse_states (s : State) (i : Fin 6) (which : GroupPulse) (j : Fin 6) :
    ((s.endGroupPulse i which).channel j).state = (s.channel j).state := by
  have set (u : State) (c : Channel) (state : c.state = (u.channel i).state) :
      ((u.setChannel i c).channel j).state = (u.channel j).state := by
    by_cases same : i = j
    · subst same
      rw [State.channel_setChannel]
      exact state
    · rw [State.channel_setChannel_ne u c same]
  unfold State.endGroupPulse
  split
  · exact set s _ rfl
  · dsimp only
    split
    · refine Eq.trans ?_ (set s { s.channel i with close := none } rfl)
      exact set _ _ rfl
    · exact set s _ rfl

theorem execGroupPulseEnd_keeps (i : Fin 6) (which : GroupPulse) (s : State) : s.KeepsIn (execGroupPulseEnd i which s) := by
  refine onExpiry_keeps fun _ d running => State.Quiet.keeps ?_
  have runs : ((s.advanceTo d).channel i).pulse which ≠ none := by
    rw [show ((s.advanceTo d).channel i).pulse which = some d from running]
    simp
  exact (State.endGroupPulse_keepsLimits _ i which runs).quiet ((s.advanceTo d).endGroupPulse_frame i which)
    ((s.advanceTo d).endGroupPulse_states i which)

theorem execCloseSpacingExpiry_keeps (s : State) : s.KeepsIn (execCloseSpacingExpiry s) :=
  onExpiry_quiet_keeps fun _ => ⟨⟨id, id, id, id⟩, rfl, .of_stands rfl⟩

theorem execHandoffTimerExpiry_keeps (s : State) : s.KeepsIn (execHandoffTimerExpiry s) := by
  refine onExpiry_keeps fun past d _ => ?_
  split
  · exact .refl _
  · exact (((Ladder.set_keepsLimits (s.advanceTo d) _).trans (State.takeStep_keepsLimits _)).trans
      (State.nextStep_keepsLimits _)).finish past

theorem execRestoreCheck_keeps (s : State) : s.KeepsIn (execRestoreCheck s) :=
  onExpiry_finish_keeps fun u => (Ladder.set_keepsLimits u { u.ladder with restoreTimer := u.after restorePeriod }).trans
    (State.restoreCheck_keepsLimits _)

theorem execActionAgeTick_keeps (s : State) : s.KeepsIn (execActionAgeTick s) :=
  onExpiry_quiet_keeps fun u => ⟨Ladder.set_keepsLimits u _ fun _ => bump8_le _, rfl, .of_stands rfl⟩

/-! ### The claims (Section 9) -/

theorem State.withdraw_keepsLimits (s : State) (n : Fin 2) : s.KeepsLimits (s.withdraw n) :=
  s.setClaimState_keepsLimits n Claim.reset fun _ => Nat.zero_le 255

theorem execRequestRising_keeps (n : Fin 2) (s : State) : s.KeepsIn (execRequestRising n s) := by
  unfold execRequestRising
  split
  · exact (State.Keeps.refl s).next
  · exact (State.edge_keeps (State.takeRequest_keepsLimits · n) fun takes => State.past_of_awake takes.1).next

theorem execRequestFalling_keeps (n : Fin 2) (s : State) : s.KeepsIn (execRequestFalling n s) := by
  unfold execRequestFalling
  split
  · exact (State.edge_keeps (State.withdraw_keepsLimits · n) fun takes => State.past_of_awake takes.1).next
  · exact (State.Keeps.refl s).next

theorem execClaimWindowExpiry_keeps (n : Fin 2) (s : State) : s.KeepsIn (execClaimWindowExpiry n s) :=
  onExpiry_finish_keeps fun u => u.judgeWindow_keepsLimits n

theorem execRetestTimerExpiry_keeps (s : State) : s.KeepsIn (execRetestTimerExpiry s) :=
  onExpiry_finish_keeps fun u => (Admission.set_keepsLimits u { u.admission with retest := u.after retestPeriod }).trans
    (.foldl State.retestClaim_keepsLimits _ _)

theorem execWaitingTimerExpiry_keeps (n : Fin 2) (s : State) : s.KeepsIn (execWaitingTimerExpiry n s) :=
  onExpiry_finish_keeps fun u => u.waitedOut_keepsLimits n

theorem execHoldTimerExpiry_keeps (n : Fin 2) (s : State) : s.KeepsIn (execHoldTimerExpiry n s) :=
  onExpiry_finish_keeps fun u => u.setClaimState_keepsLimits n _

theorem execClaimAgeTick_keeps (n : Fin 2) (s : State) : s.KeepsIn (execClaimAgeTick n s) :=
  onExpiry_quiet_keeps fun u => ⟨u.setClaim_keepsLimits n _ fun _ => bump8_le _, rfl, .of_stands rfl⟩

end Sys2Proof.Machine
end

section
/-! The counts, the channels, the composer, the alarms, the island view and the ladder through the service port, through the
card modes, and so through every step (O59, O60). -/

namespace Sys2Proof.Machine

/-! ### The service port (Section 11) -/

/-- What a request leaves of a card past LOAD: every invariant is kept, and the card stands past LOAD still. -/
def State.Serves (s t : State) : Prop := s.loader.mode ≠ .load → s.Keeps t ∧ t.loader.mode ≠ .load

theorem State.Serves.refl (s : State) : s.Serves s := fun past => ⟨.refl s, past⟩

theorem State.Serves.trans {s t u : State} (h : s.Serves t) (k : t.Serves u) : s.Serves u := fun past =>
  ⟨(h past).1.trans (k (h past).2).1, (k (h past).2).2⟩

theorem State.Serves.foldl {α : Type} {f : State → α → State} (hf : ∀ (s : State) (a : α), s.Serves (f s a)) (xs : List α)
    (s : State) : s.Serves (xs.foldl f s) := by
  induction xs generalizing s with
  | nil => exact .refl s
  | cons x xs ih => exact (hf s x).trans (ih _)

theorem State.Quiet.serves {s t : State} (h : s.Quiet t) : s.Serves t := fun past => ⟨h.keeps, h.sources.past past⟩

theorem State.Quiet.foldl {α : Type} {f : State → α → State} (hf : ∀ (s : State) (a : α), s.Quiet (f s a)) (xs : List α)
    (s : State) : s.Quiet (xs.foldl f s) := by
  induction xs generalizing s with
  | nil => exact .refl s
  | cons x xs ih => exact (hf s x).trans (ih _)

theorem State.KeepsLimits.serves {s t : State} (h : s.KeepsLimits t) : s.Serves t.finish := fun past =>
  ⟨h.finish past, (h.trans t.finish_keepsLimits).past past⟩

/-- The port itself, its overrun counter within its limit (R175, R180). -/
theorem State.setService_quiet (s : State) (p : Service)
    (within : s.service.overruns ≤ 65535 → p.overruns ≤ 65535 := by exact id) : s.Quiet { s with service := p } :=
  ⟨⟨id, State.Counted.keeps fun h => { h with port := within h.port }, id, id⟩, rfl, .of_stands rfl⟩

/-- CLEAR_ALARMS leaves the latch of every kind that is active, and the relay with the latches (R178, R179). -/
theorem State.clearLatches_serves (s : State) : s.Serves s.clearLatches := by
  have limits : s.KeepsLimits s.clearLatches := s.clearLatches_frame.keepsLimits
  have sources : s.SameSources s.clearLatches := rfl
  refine fun past => ⟨⟨limits.counts, limits.channels, limits.composer, fun safe => ?_, sources.islandSafe,
    sources.ladderCurrent⟩, past⟩
  obtain ⟨-, link, latched⟩ := safe.2 past
  refine ⟨fun load => absurd load past, fun _ => ⟨State.relay_latchThose _ _, link, fun k active => ?_⟩⟩
  have before : s.active k = true := by cases k <;> exact active
  simpa [State.clearLatches, before] using latched k before

theorem LaneIf.clearCounters_calm (l : LaneIf) : l.Calm l.clearCounters :=
  ⟨fun h => ⟨Nat.zero_le _, Nat.zero_le _, Nat.zero_le _, Nat.zero_le _, Nat.zero_le _, h.errors⟩, rfl, id⟩

/-- The counters of the lanes, the queue, the peer table and the port at 0 (R180). -/
theorem State.zeroCounters_quiet (s : State) : s.Quiet { s with
    laneA := s.laneA.clearCounters, laneB := s.laneB.clearCounters, rx := { s.rx with overruns := 0 }
    peers := { s.peers with lateFrames := 0, dualCopies := 0 }, service := { s.service with overruns := 0 } } := by
  refine ⟨⟨id, State.Counted.keeps fun h => ?_, id, id⟩, rfl, rfl, rfl, ?_, ?_, rfl⟩
  · exact { h with
      laneA := (LaneIf.clearCounters_calm _).counted h.laneA
      laneB := (LaneIf.clearCounters_calm _).counted h.laneB
      queue := Nat.zero_le _
      discarded := ⟨Nat.zero_le _, Nat.zero_le _⟩
      port := Nat.zero_le _ }
  · exact (LaneIf.clearCounters_calm _).reports
  · exact (LaneIf.clearCounters_calm _).reports

/-- CLEAR_COUNTERS leaves no count above 0 but the error windows', and nothing to settle (R180). -/
theorem State.serveClearCounters_quiet (s : State) : s.Quiet s.serveClearCounters.1 := by
  have clears (u : State) (i : Station) : u.Quiet (u.setEntry i (u.entry i).clearCounters) :=
    u.setEntry_quiet i _ (fun _ => ⟨Nat.zero_le _, Nat.zero_le _⟩) rfl rfl
  exact (State.Quiet.foldl clears stations s).trans (State.zeroCounters_quiet _)

theorem State.serveClearPhantom_serves (s : State) (arg : Nat) : s.Serves (s.serveClearPhantom arg).1 := by
  unfold State.serveClearPhantom
  split
  · exact .refl s
  · split
    · exact State.KeepsLimits.serves ((s.setEntry_keepsLimits _ _ (by exact id)).trans (State.spread_keepsLimits _))
    · exact .refl s

/-- The channel that an argument names, with its group's state (R119, R120). -/
theorem State.namedChannel_state {s : State} {arg : Nat} {i : Fin 6} {st : GroupState}
    (named : s.namedChannel arg = some (i, st)) : (s.channel i).state = some st := by
  unfold State.namedChannel at named
  split at named
  · obtain ⟨x, state, same⟩ := Option.map_eq_some_iff.1 named
    obtain ⟨rfl, rfl⟩ := Prod.mk.inj same
    exact state
  · contradiction

theorem State.serveInhibit_serves (s : State) (arg : Nat) : s.Serves (s.serveInhibit arg).1 := by
  unfold State.serveInhibit
  split
  case h_1 | h_2 | h_3 | h_4 => exact .refl s
  all_goals
    next named =>
    exact (s.clearMarks_groupState_keepsLimits _ (State.namedChannel_state named) (by simp) (by simp)).serves

theorem State.serveEnable_serves (s : State) (arg : Nat) : s.Serves (s.serveEnable arg).1 := by
  unfold State.serveEnable
  split
  · exact .refl s
  · next named =>
    refine (s.clearMarks_groupState_keepsLimits _ (State.namedChannel_state named) (by simp) ?_).serves
    split <;> simp
  · exact .refl s

/-- A restart in progress is a mark of the loader's, in the same mode (R170). -/
theorem State.setRestart_quiet (s : State) (mark : Bool) :
    s.Quiet { s with loader := { s.loader with restartInProgress := mark } } := ⟨⟨id, id, id, id⟩, rfl, .of_stands rfl⟩

theorem State.serveRestart_serves (s : State) : s.Serves s.serveRestart.1 := by
  unfold State.serveRestart
  split
  · exact (s.setRestart_quiet true).serves
  · exact .refl s

/-- Every request that is served (R174). -/
theorem State.serve_serves (s : State) (kind arg : Nat) : s.Serves (s.serve kind arg).1 := by
  unfold State.serve
  split
  case h_2 => rw [State.servePeer_fst]; exact .refl s
  case h_8 => exact s.clearLatches_serves
  case h_9 => exact s.serveClearCounters_quiet.serves
  case h_10 => exact s.serveClearPhantom_serves arg
  case h_11 => exact s.serveInhibit_serves arg
  case h_12 => exact s.serveEnable_serves arg
  case h_13 => exact s.serveRestart_serves
  all_goals exact .refl s

theorem State.takeMessage_serves (s : State) (bs : List Byte) : s.Serves (s.takeMessage bs) := by
  unfold State.takeMessage
  dsimp only
  split
  · exact (s.serve_serves _ _).trans (State.setService_quiet _ _).serves
  · exact (s.setService_quiet _).serves

theorem State.takeByte_serves (s : State) (b : Byte) : s.Serves (s.takeByte b) := by
  unfold State.takeByte
  split
  · split <;> exact (s.setService_quiet _).serves
  · unfold State.receiveByte
    dsimp only
    split
    · split <;> exact (s.setService_quiet _).serves
    · split
      · exact s.takeMessage_serves _
      · exact (s.setService_quiet _).serves
  · exact (s.setService_quiet _).serves
  · exact (s.setService_quiet _).serves

theorem serviceRequest_keeps (bs : List Byte) (s : State) : s.KeepsIn (serviceRequest bs s) :=
  whileAwake_keeps fun past => (State.Serves.foldl State.takeByte_serves _ s past).1

theorem execServiceByteReceived_keeps (b : Byte) (s : State) : s.KeepsIn (execServiceByteReceived b s) :=
  whileAwake_keeps fun past => (s.takeByte_serves b past).1

theorem execServiceGapExpiry_keeps (s : State) : s.KeepsIn (execServiceGapExpiry s) := by
  refine onExpiry_quiet_keeps fun u => ?_
  unfold State.endGap
  dsimp only
  split
  · exact u.setService_quiet _
  · split <;> exact u.setService_quiet _
  · exact u.setService_quiet _
  · exact u.setService_quiet _

theorem State.endResponse_quiet (s : State) : s.Quiet s.endResponse := by
  unfold State.endResponse
  dsimp only
  split
  · exact s.setService_quiet _ fun _ => bump_le _
  · exact s.setService_quiet _

/-! ### The card modes (Section 10) -/

/-- Entering LOAD: nothing has been counted, latched or formed (R165). -/
theorem State.enterLoad_keeps (s : State) : s.Keeps s.enterLoad where
  counts _ := State.reset_countsSafe
  channels _ := State.reset_channelsSafe
  composer _ := ⟨fun past => absurd rfl past, State.reset_composerSafe.2⟩
  alarms _ := ⟨fun _ => ⟨rfl, rfl⟩, fun past => absurd rfl past⟩
  island _ := ⟨rfl, nofun, fun past => absurd rfl past⟩
  ladder _ := fun past => absurd rfl past

theorem execResponseSent_keeps (s : State) : s.KeepsIn (execResponseSent s) := by
  refine whileAwake_keeps fun _ => .ite (fun _ => .ite (fun _ => .ite (fun _ => s.enterLoad_keeps) fun _ => ?_) fun _ => ?_)
    fun _ => .refl s
  · exact ((s.setRestart_quiet false).trans (State.endResponse_quiet _)).keeps
  · exact s.endResponse_quiet.keeps

/-- Channels started in turn: each stands, or has taken the start state of its group record (R124). -/
theorem State.startChannels_cases (s : State) (xs : List (Fin 6)) (i : Fin 6) :
    (xs.foldl State.startChannel s).channel i = s.channel i
      ∨ ∃ g closed, s.groupRecord i = some g
        ∧ (xs.foldl State.startChannel s).channel i = { s.channel i with state := some (startGroupState g closed) } := by
  induction xs using List.reverseRecOn with
  | nil => exact .inl rfl
  | append_singleton xs x ih =>
    rw [List.foldl_append, List.foldl_cons, List.foldl_nil]
    have frame := State.keepsBut.foldl State.startChannel_frame xs s
    have loader : (xs.foldl State.startChannel s).loader = s.loader := frame .loader (by decide)
    by_cases last : x = i
    · subst last
      have record : (xs.foldl State.startChannel s).groupRecord x = s.groupRecord x := by
        simp only [State.groupRecord, State.conf, loader]
      rw [State.startChannel]
      cases configured : s.groupRecord x with
      | none =>
        rw [record, configured]
        rw [configured] at ih
        exact ih
      | some g =>
        rw [record, configured]
        refine .inr ⟨g, (xs.foldl State.startChannel s).pins.feedback[x], rfl, ?_⟩
        dsimp only
        rw [State.channel_setChannel]
        rcases ih with same | ⟨_, _, -, started⟩
        · rw [same]
        · rw [started]
    · rw [State.startChannel_channel_ne _ last]
      exact ih

theorem startGroupState_settled (g : GroupRecord) (closed : Bool) :
    startGroupState g closed ≠ .shedPending ∧ startGroupState g closed ≠ .restorePending := by
  rw [startGroupState_eq]
  split
  · simp
  · split <;> simp

/-- In LOAD no channel is configured, so that each stands clean; past it each configured one holds a state (R110, R124). -/
theorem State.startChannels_safe {s : State} (load : s.loader.mode = .load) (straps : StrapPins) (image : List Word)
    (safe : s.ChannelsSafe) {w : State} (started : (s.leaveLoad straps image).ChannelsStarted w)
    (channels : ∀ i, w.channel i = s.channel i ∨ ∃ g closed, (s.leaveLoad straps image).groupRecord i = some g
      ∧ w.channel i = { s.channel i with state := some (startGroupState g closed) }) : w.ChannelsSafe := by
  obtain ⟨unformed, clean⟩ := safe
  obtain ⟨frame, -, states⟩ := started
  have loader : w.loader = (s.leaveLoad straps image).loader := frame .loader (by decide)
  have record (i : Fin 6) : w.groupRecord i = (s.leaveLoad straps image).groupRecord i := by
    simp only [State.groupRecord, State.conf, loader]
  have blank (i : Fin 6) : s.groupRecord i = none := by
    simp [State.groupRecord, State.conf, unformed load, blankConfiguration, strapConfiguration]
  have unpending (i : Fin 6) : (s.channel i).window.isSome = false := by
    simpa [(clean i).1 (blank i)] using (clean i).2.2
  refine ⟨fun m => ?_, fun i => ⟨fun unconfigured => ?_, fun _ configured => ?_, ?_⟩⟩
  · rw [loader] at m
    cases m
  · rw [record] at unconfigured
    rcases channels i with same | ⟨g, _, configured, -⟩
    · rw [same]
      exact (clean i).1 (blank i)
    · rw [unconfigured] at configured
      cases configured
  · rw [record] at configured
    obtain ⟨g, some⟩ := Option.ne_none_iff_exists'.1 configured
    rw [states i g some]
    simp
  · rcases channels i with same | ⟨g, closed, -, state⟩
    · rw [same]
      exact (clean i).2.2
    · rw [state]
      simp [unpending i, startGroupState_settled g closed]

/-- What the group channels alone differ in counts and composes alike. -/
theorem State.keepsBut.limits_of_groups {s t : State} (frame : s.keepsBut t [.groups]) :
    (s.CountsSafe → t.CountsSafe) ∧ (s.ComposerSafe → t.ComposerSafe) := by
  have rest : State.keepsBut { s with groups := t.groups } t [] := by
    intro b _
    have same : b ∉ [Block.groups] → b.same s t := frame b
    cases b <;> first | rfl | exact same (by decide)
  exact ⟨rest.keepsLimits.counts, rest.keepsLimits.composer⟩

/-- Leaving LOAD counts nothing, and forms the configuration from what was read (R130, R164). -/
theorem State.leaveLoad_limits (s : State) (straps : StrapPins) (image : List Word) :
    (s.CountsSafe → (s.leaveLoad straps image).CountsSafe) ∧ (s.ComposerSafe → (s.leaveLoad straps image).ComposerSafe) := by
  refine ⟨State.Counted.keeps fun h => { h with laneA := ?_, laneB := ?_, actionAge := Nat.zero_le 255 }, ?_⟩
  · exact ⟨h.laneA.good, h.laneA.check, h.laneA.collisions, h.laneA.drops, h.laneA.replaced, h.laneA.errors⟩
  · exact ⟨h.laneB.good, h.laneB.check, h.laneB.collisions, h.laneB.drops, h.laneB.replaced, h.laneB.errors⟩
  · rintro ⟨-, number, last, latest⟩
    exact ⟨fun _ => rfl, number, last, latest⟩

/-- The entry to LISTEN by its parts: the card leaves LOAD, its channels start, and its set state is taken (R124, R166). -/
theorem State.enterListen_starts (s : State) (straps : StrapPins) (image : List Word) :
    ∃ w : State, (s.leaveLoad straps image).ChannelsStarted w
      ∧ (∀ i, w.channel i = s.channel i ∨ ∃ g closed, (s.leaveLoad straps image).groupRecord i = some g
        ∧ w.channel i = { s.channel i with state := some (startGroupState g closed) })
      ∧ s.enterListen straps image = (w.setSetState w.pins.startSetState).finish :=
  ⟨_, State.startChannels_started _, State.startChannels_cases _ _, rfl⟩

/-- Entering LISTEN: the configuration is formed, the channels start, and the card is settled (R124, R166). -/
theorem State.enterListen_keeps {s : State} (load : s.loader.mode = .load) (straps : StrapPins) (image : List Word) :
    s.Keeps (s.enterListen straps image) := by
  obtain ⟨w, started, channels, ends⟩ := s.enterListen_starts straps image
  have limits : w.KeepsLimits (w.setSetState w.pins.startSetState).finish :=
    (w.setSetState_keepsLimits w.seq _).trans (State.finish_keepsLimits _)
  obtain ⟨leavesCounts, leavesComposer⟩ := s.leaveLoad_limits straps image
  obtain ⟨startsCounts, startsComposer⟩ := started.1.limits_of_groups
  have past : w.loader.mode ≠ .load := by
    rw [started.1 .loader (by decide)]
    simp [State.leaveLoad]
  rw [ends]
  exact (State.finish_settled _).keeps (limits.past past) (limits.counts ∘ startsCounts ∘ leavesCounts)
    (fun safe => limits.channels (State.startChannels_safe load straps image safe started channels))
    (limits.composer ∘ startsComposer ∘ leavesComposer)

/-- Entering RUN: its timers start, the first frame is composed and the REQUEST levels are taken (R168). -/
theorem State.enterRun_keeps {s : State} (past : s.loader.mode ≠ .load) : s.Keeps s.enterRun := by
  have runs : s.KeepsLimits s.startRun :=
    .trans (State.setMode_keepsLimits past (m := .run) (by decide)) ⟨id, State.Counted.keeps fun h => { h with }, id, id⟩
  have composes : s.startRun.KeepsLimits (s.startRun.request .periodic).resolve.flush.resolve :=
    (((State.request_keepsLimits _ _).trans (State.resolve_frame _).keepsLimits).trans (State.flush_keepsLimits _)).trans
      (State.resolve_frame _).keepsLimits
  exact ((runs.trans composes).ite fun _ => State.takeRequest_keepsLimits _ 0).ite
    (fun _ => State.takeRequest_keepsLimits _ 1) |>.finish past

theorem execListenTimerExpiry_keeps (s : State) : s.KeepsIn (execListenTimerExpiry s) := by
  have sees (l : LaneIf) (idle : Bool) : l.Calm (l.seeIdle idle) := by
    unfold LaneIf.seeIdle
    split
    · exact ⟨fun h => ⟨h.good, h.check, h.collisions, h.drops, h.replaced, h.errors⟩, rfl, id⟩
    · exact ⟨id, rfl, id⟩
  have quiet (u : State) : u.Quiet u.seeLanes :=
    ⟨⟨id, State.Counted.keeps fun h => { h with laneA := (sees _ _).counted h.laneA, laneB := (sees _ _).counted h.laneB },
      id, id⟩, rfl, rfl, rfl, (sees _ _).reports, (sees _ _).reports, rfl⟩
  exact onExpiry_keeps fun past d _ => (quiet (s.advanceTo d)).keeps.trans (State.enterRun_keeps past)

theorem execLoadReadDone_keeps (straps : StrapPins) (image : List Word) (s : State) :
    s.KeepsIn (execLoadReadDone straps image s) :=
  (State.Keeps.ite (fun loading => State.enterListen_keeps loading.2 straps image) fun _ => .refl s).next

theorem execLoadTimeout_keeps (straps : StrapPins) (image : List Word) (s : State) :
    s.KeepsIn (execLoadTimeout straps image s) := by
  unfold execLoadTimeout
  split
  · exact (State.Keeps.refl s).next
  · next d _ =>
    refine (State.Keeps.ite (fun loading => (s.advanceTo_quiet d).keeps.trans ?_) fun _ => .refl s).next
    exact State.enterListen_keeps (s := s.advanceTo d) loading.2 straps _

/-- Without supply the card stands as it was (R171). -/
theorem State.losePower_quiet (s : State) : s.Quiet { s with powered := false } := ⟨⟨id, id, id, id⟩, rfl, .of_stands rfl⟩

/-! ### Every command and every step -/

/-- Every command keeps the counts, the channels, the composer, the alarms, the island view and the ladder. -/
theorem exec_keeps (c : Instr) (s : State) : s.KeepsIn (exec c s) := by
  cases c with
  | powerOn => exact s.enterLoad_keeps.next
  | loadReadDone straps image => exact execLoadReadDone_keeps straps image s
  | loadTimeout straps image => exact execLoadTimeout_keeps straps image s
  | listenTimerExpiry => exact execListenTimerExpiry_keeps s
  | receptionEnd l rx => exact execReceptionEnd_keeps l rx s
  | sendStart l => exact execSendStart_keeps l s
  | frameComplete l => exact execFrameComplete_keeps l s
  | collision l => exact execCollision_keeps l s
  | jamEnd l => exact execJamEnd_keeps l s
  | backoffExpiry l => exact execBackoffExpiry_keeps l s
  | stuckEntry l began => exact execStuckEntry_keeps l began s
  | driverTestLaneIdle l => exact execDriverTestLaneIdle_keeps l s
  | driverTestExpiry l => exact execDriverTestExpiry_keeps l s
  | isolatedLaneIdle l => exact execIsolatedLaneIdle_keeps l s
  | stuckEnd l => exact execStuckEnd_keeps l s
  | errorWindowExpiry l => exact execErrorWindowExpiry_keeps l s
  | silenceTimerExpiry l => exact execSilenceTimerExpiry_keeps l s
  | frameTimerExpiry => exact execFrameTimerExpiry_keeps s
  | spacingTimerExpiry => exact execSpacingTimerExpiry_keeps s
  | intake => exact execIntake_keeps s
  | entryTimer350 i => exact execEntryTimer350_keeps i s
  | entryTimer1000 i => exact execEntryTimer1000_keeps i s
  | lanesHeardExpiry i l => exact execLanesHeardExpiry_keeps i l s
  | tieInputChange tie closed => exact execTieInputChange_keeps tie closed s
  | tieFilterExpiry tie => exact execTieFilterExpiry_keeps tie s
  | returnTimerExpiry => exact execReturnTimerExpiry_keeps s
  | meteringIntervalExpiry m => exact execMeteringIntervalExpiry_keeps m s
  | breakerCloseEdge => exact execBreakerCloseEdge_keeps s
  | breakerOpenEdge => exact execBreakerOpenEdge_keeps s
  | runningEdge high => exact execRunningEdge_keeps high s
  | availableEdge high => exact execAvailableEdge_keeps high s
  | unloadEdge high => exact execUnloadEdge_keeps high s
  | startTimerExpiry => exact execStartTimerExpiry_keeps s
  | unloadTimerExpiry => exact execUnloadTimerExpiry_keeps s
  | openingTimerExpiry => exact execOpeningTimerExpiry_keeps s
  | setPulseEnd which => exact onExpiry_quiet_keeps fun u => u.endSetPulse_quiet which
  | evaluation => exact execEvaluation_keeps s
  | tripRecentTimerExpiry => exact execTripRecentTimerExpiry_keeps s
  | feedbackEdge i closed => exact execFeedbackEdge_keeps i closed s
  | confirmationWindowExpiry i => exact execConfirmationWindowExpiry_keeps i s
  | groupPulseEnd i which => exact execGroupPulseEnd_keeps i which s
  | closeSpacingExpiry => exact execCloseSpacingExpiry_keeps s
  | handoffTimerExpiry => exact execHandoffTimerExpiry_keeps s
  | restoreCheck => exact execRestoreCheck_keeps s
  | actionAgeTick => exact execActionAgeTick_keeps s
  | requestRising n => exact execRequestRising_keeps n s
  | requestFalling n => exact execRequestFalling_keeps n s
  | claimWindowExpiry n => exact execClaimWindowExpiry_keeps n s
  | retestTimerExpiry => exact execRetestTimerExpiry_keeps s
  | waitingTimerExpiry n => exact execWaitingTimerExpiry_keeps n s
  | holdTimerExpiry n => exact execHoldTimerExpiry_keeps n s
  | claimAgeTick n => exact execClaimAgeTick_keeps n s
  | serviceGapExpiry => exact execServiceGapExpiry_keeps s
  | badRequest bytes => exact serviceRequest_keeps bytes s
  | responseSent => exact execResponseSent_keeps s
  | status | ladder | claims | groups | alarms | counters | clearAlarms | clearCounters | restart =>
    exact serviceRequest_keeps _ s
  | peer | clearPhantom | inhibit | enable => exact serviceRequest_keeps _ s
  | serviceByteReceived b => exact execServiceByteReceived_keeps b s
  | receptionBegins l => exact execReceptionBegins_keeps l s
  | lossOfPower => exact s.losePower_quiet.keeps.next

/-- Every step keeps the six: with a command at the front of the queue by that command, and otherwise as time alone passes. -/
theorem step_keeps (s : State) : s.KeepsIn (step s) := by
  have takes (rest : List Instr) : s.Quiet { s with pending := rest } := ⟨⟨id, id, id, id⟩, rfl, .of_stands rfl⟩
  unfold step
  split
  · exact (s.advanceTo_quiet _).keeps.next
  · next c rest _ => exact fun t taken => (takes rest).keeps.trans (exec_keeps c _ t taken)

/-- Settles O60, from what every command keeps: no count, channel or value rests on another invariant. -/
theorem stepKeepsCountsAndChannels : Obligations.StepKeepsCountsAndChannels :=
  ⟨fun s t safe h => (step_keeps s t h).counts safe, fun s t safe h => (step_keeps s t h).channels safe,
    fun s t safe h => (step_keeps s t h).composer safe⟩

/-! ### What the ladder holds (R126) -/

/-- A group that the ladder is to hold, in the words of its sources: an own configured one, or one that a LIVE or STALE
member's record lists (R126). -/
def State.Listed (s : State) (e : LadderEntry) : Prop :=
  (e.owner = .own ∧ e.station = s.own ∧ (∃ g ∈ s.conf.groups, g.index = e.index ∧ g.rank = e.rank
      ∧ g.nominal = e.nominal) ∧ ∃ st, (s.channel e.index).state = some st ∧ st.frameCode = e.state)
  ∨ (e.station ∈ s.island.members ∧ e.station ≠ s.own
    ∧ (((s.entry e.station).state = .live ∧ e.owner = .live) ∨ ((s.entry e.station).state = .stale ∧ e.owner = .stale))
    ∧ ∃ r, (s.entry e.station).record = some r
      ∧ { index := e.index, rank := e.rank, nominal := e.nominal, state := e.state } ∈ r.groups)

theorem State.mem_ladderOf_iff_listed (s : State) (e : LadderEntry) : e ∈ s.ladderOf ↔ s.Listed e := by
  rw [State.mem_ladderOf, State.mem_ownEntries, mem_peerEntries]
  simp only [true_and, State.Listed]

/-- Past LOAD every configured own group stands on the ladder, its channel holding a state (R124, R126). -/
theorem State.own_groups_listed {s : State} (channels : s.ChannelsSafe) (past : s.loader.mode ≠ .load) {g : GroupRecord}
    (configured : g ∈ s.conf.groups) : ∃ e, s.Listed e ∧ e.owner = .own ∧ e.station = s.own ∧ e.index = g.index
      ∧ e.rank = g.rank ∧ e.nominal = g.nominal := by
  have record : s.groupRecord g.index ≠ none := by
    simp only [State.groupRecord, ne_eq, List.find?_eq_none, not_forall]
    exact ⟨g, configured, by simp⟩
  obtain ⟨st, state⟩ := Option.ne_none_iff_exists'.1 ((channels.2 g.index).2.1 past record)
  exact ⟨{ station := s.own, index := g.index, rank := g.rank, nominal := g.nominal, state := st.frameCode, owner := .own },
    .inl ⟨rfl, rfl, ⟨g, configured, rfl, rfl, rfl⟩, st, state, rfl⟩, rfl, rfl, rfl, rfl, rfl⟩

/-- Settles O59, from what every command leaves to follow, and from what the ladder's listing holds. -/
theorem stepKeepsWhatFollows : Obligations.StepKeepsWhatFollows := by
  refine ⟨fun s t safe h => (step_keeps s t h).alarms safe, fun s t safe h => (step_keeps s t h).island safe,
    fun s t safe h => (step_keeps s t h).ladder safe, fun s => ⟨s.mem_ladderOf_iff_listed, fun current channels past => ?_⟩⟩
  rw [current past]
  refine ⟨s.mem_ladderOf_iff_listed, fun g configured => ?_⟩
  obtain ⟨e, listed, own⟩ := State.own_groups_listed channels past configured
  exact ⟨e, (s.mem_ladderOf_iff_listed e).2 listed, own⟩

end Sys2Proof.Machine
end

section
/-! The service port's reading requests (R174, R176): each is answered from the state as it stands, and the port alone moves;
the shape of a response (R172), and the bytes of COUNTERS and ALARMS. -/

namespace Sys2Proof.Machine

/-! ### The shape of a response (R172) -/

/-- What a response carries behind its kind: its status, and its payload or its reason (R172). -/
def Reply.body : Reply → List Byte
  | .ok payload => 0 :: payload
  | .reject reason => [1, byteOf reason.code]

theorem responseBytes_eq (kind : Nat) (r : Reply) :
    responseBytes kind r = withCheck (0x9A#8 :: bytes16 (5 + r.body.length) ++ byteOf kind :: r.body) := by
  cases r <;> rfl

theorem length_responseBytes (kind : Nat) (r : Reply) : (responseBytes kind r).length = 5 + r.body.length := by
  rw [responseBytes_eq]
  simp [withCheck, bytes16]
  omega

/-- The length bytes of a response hold its length where the payload fits (R172). -/
theorem word16_responseBytes (kind : Nat) {r : Reply} (fits : r.body.length < 65531) :
    word16 ((responseBytes kind r).getD 1 0) ((responseBytes kind r).getD 2 0) = (responseBytes kind r).length := by
  rw [length_responseBytes, responseBytes_eq]
  exact word16_byteOf (by omega)

/-! ### A reading request at an IDLE port (R174) -/

/-- The port once a request has been answered (R174). -/
def State.answered (s : State) (kind : Nat) (r : Reply) : State := { s with
  service := { s.service with state := .responding, bytes := [], gap := none, response := responseBytes kind r } }

theorem State.respond_receivedUpTo (s : State) (bs : List Byte) (kind : Nat) (r : Reply) :
    (s.receivedUpTo bs).respond kind r = s.answered kind r := rfl

/-- A request without an argument byte that its kind only answers (R174). -/
theorem serviceRequest_reads {s : State} {r : Reply} {kind : Nat} (awake : s.Awake) (idle : s.service.state = .idle)
    (byte : kind < 256) (length : requestLength kind = some 4)
    (served : ∀ arg, (s.receivedUpTo [0x6D#8, 4#8, byteOf kind]).serve kind arg
      = (s.receivedUpTo [0x6D#8, 4#8, byteOf kind], r)) :
    serviceRequest (requestBytes kind []) s = .next (s.answered kind r) :=
  (serviceRequest_four awake idle byte length served).trans rfl

theorem Station.num_lt (i : Station) : i.num < 256 := Nat.lt_of_le_of_lt i.isLt (by decide)

/-- PEER of a station (R176). -/
theorem exec_peer {s : State} (awake : s.Awake) (idle : s.service.state = .idle) (i : Station) :
    exec (.peer (byteOf i.num)) s = .next (s.answered 2 (.ok (s.peerPayload i))) := by
  have served (u : State) : u.serve 2 (byteOf i.num).toNat = (u, .ok (u.peerPayload i)) := by
    show u.servePeer _ = _
    rw [State.servePeer, toNat_byteOf (Station.num_lt i), stationOf_num]
  exact (serviceRequest_five (kind := 2) awake idle (by decide) rfl (served _)).trans rfl

/-- PEER of a number that is no identity (R176). -/
theorem exec_peer_badArgument {s : State} (awake : s.Awake) (idle : s.service.state = .idle) {b : Byte}
    (no : b.toNat = 0 ∨ 8 < b.toNat) : exec (.peer b) s = .next (s.answered 2 (.reject .badArgument)) := by
  have unnamed : stationOf b.toNat = none := dif_neg (by omega)
  have served (u : State) : u.serve 2 b.toNat = (u, .reject .badArgument) := by
    show u.servePeer _ = _
    rw [State.servePeer, unnamed]
  exact (serviceRequest_five (kind := 2) awake idle (by decide) rfl (served _)).trans rfl

/-! ### A request of bad form (R172 to R174) -/

theorem State.takeMessage_bad {s : State} {bs : List Byte} (bad : requestFormGood bs = false) :
    s.takeMessage bs = s.respond (bs.getD 2 0).toNat (.reject .badRequest) := by
  rw [State.takeMessage, bad]
  rfl

/-- A whole request, of the length that its length byte gives (R172, R173). -/
theorem whole_request {bs : List Byte} (length : bs.length = 4 ∨ bs.length = 5) (first : bs.getD 0 0 = 0x6D#8)
    (counts : (bs.getD 1 0).toNat = bs.length) :
    (∃ kind check, bs = [0x6D#8, 4#8, kind, check]) ∨ ∃ kind arg check, bs = [0x6D#8, 5#8, kind, arg, check] := by
  match bs, length with
  | [a, n, kind, check], _ =>
    obtain rfl : a = 0x6D#8 := first
    obtain rfl : n = 4#8 := BitVec.eq_of_toNat_eq counts
    exact .inl ⟨kind, check, rfl⟩
  | [a, n, kind, arg, check], _ =>
    obtain rfl : a = 0x6D#8 := first
    obtain rfl : n = 5#8 := BitVec.eq_of_toNat_eq counts
    exact .inr ⟨kind, arg, check, rfl⟩

/-- A request of bad form at an IDLE port is answered under the kind that it carries (R174, log entry 21). -/
theorem exec_badRequest {s : State} (awake : s.Awake) (idle : s.service.state = .idle) {bs : List Byte}
    (wellFormed : (Instr.badRequest bs).wellFormed = true) :
    exec (.badRequest bs) s = .next (s.answered (bs.getD 2 0).toNat (.reject .badRequest)) := by
  simp only [Instr.wellFormed, Bool.and_eq_true, Bool.or_eq_true, beq_iff_eq, Bool.not_eq_true'] at wellFormed
  obtain ⟨⟨⟨length, first⟩, counts⟩, bad⟩ := wellFormed
  show serviceRequest bs s = _
  rw [serviceRequest, whileAwake_of awake, s.bytesToCome_idle idle]
  rcases whole_request length first counts with ⟨kind, check, rfl⟩ | ⟨kind, arg, check, rfl⟩
  · rw [s.takeBytes_four idle, State.takeMessage_bad bad, State.respond_receivedUpTo]
  · rw [s.takeBytes_five idle, State.takeMessage_bad bad, State.respond_receivedUpTo]

/-! ### COUNTERS and ALARMS (R176, R177, R180) -/

theorem flagByte_eq (b : Bool) : flagByte b = if b = true then 1 else 0 := rfl

theorem State.alarmsPayload_eq (s : State) : s.alarmsPayload =
    AlarmKind.all.flatMap (fun k => [if s.active k = true then 1 else 0, if k ∈ s.alarms.latched then 1 else 0])
      ++ [if s.alarms.relay = true then 1 else 0] := by
  simp only [State.alarmsPayload, flagByte_eq, List.contains_iff_mem]

/-- Settles O51, request by request: what each kind serves, and the answer that the port then holds. -/
theorem readingRequestsChangeNothing : Obligations.ReadingRequestsChangeNothing := by
  refine ⟨fun kind r fits => ?_, fun s awake idle => ?_⟩
  · have short : r.body.length < 65531 := by
      cases r with
      | ok payload => exact Nat.succ_lt_succ ((fits payload rfl).trans (by decide))
      | reject reason => simp [Reply.body]
    refine ⟨?_, ?_, word16_responseBytes kind short, ?_⟩
    · rw [responseBytes_eq]
      exact byteSum_withCheck _
    · rw [responseBytes_eq]
      rfl
    · rw [responseBytes_eq]
      rfl
  · have reads (kind : Nat) {r : Reply} := serviceRequest_reads (kind := kind) (r := r) awake idle
    exact ⟨reads 1 (by decide) rfl fun _ => rfl, exec_peer awake idle, fun _ => exec_peer_badArgument awake idle,
      reads 3 (by decide) rfl fun _ => rfl, reads 4 (by decide) rfl fun _ => rfl,
      reads 5 (by decide) rfl fun _ => rfl, reads 6 (by decide) rfl fun _ => rfl,
      reads 7 (by decide) rfl fun _ => rfl, fun _ => exec_badRequest awake idle, rfl, s.alarmsPayload_eq⟩

end Sys2Proof.Machine
end

section
/-! The service port's clearing requests (R36, R179, R180): CLEAR_ALARMS over the latches, CLEAR_COUNTERS over the lanes, the
queue, the peer table and the port, and CLEAR_PHANTOM over one entry, which the ladder takes up. -/

namespace Sys2Proof.Machine

/-! ### CLEAR_ALARMS (R177, R179) -/

theorem State.mem_clearLatches (s : State) (k : AlarmKind) :
    k ∈ s.clearLatches.alarms.latched ↔ k ∈ s.alarms.latched ∧ s.active k = true := by
  simp [State.clearLatches]

/-- Latches taken from the list of R177 stand in its order. -/
theorem State.latchThose_ascending (s : State) (p : AlarmKind → Bool) :
    ((s.latchThose p).alarms.latched.map AlarmKind.place).Pairwise (· < ·) := by
  have all : (AlarmKind.all.map AlarmKind.place).Pairwise (· < ·) := by decide
  exact all.sublist (List.filter_sublist.map _)

theorem exec_clearAlarms {s : State} (awake : s.Awake) (idle : s.service.state = .idle) :
    exec .clearAlarms s = .next (s.clearLatches.respond 8 (.ok s.clearLatches.latchedPayload)) := by
  have served (u : State) (arg : Nat) : u.serve 8 arg = (u.clearLatches, .ok u.clearLatches.latchedPayload) := rfl
  exact (serviceRequest_four (kind := 8) awake idle (by decide) rfl (served _)).trans rfl

/-! ### CLEAR_COUNTERS (R180) -/

/-- The entries of a list of stations with their two counters at 0 (R37, R180). -/
def State.clearEntries (s : State) (is : List Station) : State :=
  is.foldl (fun u i => u.setEntry i (u.entry i).clearCounters) s

theorem State.entry_clearEntries (is : List Station) (s : State) (j : Station) :
    (s.clearEntries is).entry j = if j ∈ is then (s.entry j).clearCounters else s.entry j := by
  induction is generalizing s with
  | nil => rfl
  | cons i is ih =>
    refine (ih _).trans ?_
    by_cases same : i = j
    · subst same
      simp [PeerEntry.clearCounters]
    · simp [State.entry_setEntry_ne s _ same, Ne.symm same]

/-- Of the card the clearing of entries rewrites the peer table alone. -/
theorem State.clearEntries_eq (is : List Station) (s : State) :
    s.clearEntries is = { s with peers := (s.clearEntries is).peers } := by
  induction is generalizing s with
  | nil => rfl
  | cons i is ih => exact ih (s.setEntry i (s.entry i).clearCounters)

theorem State.clearEntries_setService (is : List Station) (s : State) (p : Service) :
    (s.setService p).clearEntries is = (s.clearEntries is).setService p := by
  induction is generalizing s with
  | nil => rfl
  | cons i is ih => exact ih (s.setEntry i (s.entry i).clearCounters)

/-- The card with the 14 counters at 0 (R180). -/
def State.zeroCounters (s : State) : State := { s with
  laneA := s.laneA.clearCounters, laneB := s.laneB.clearCounters, rx := { s.rx with overruns := 0 }
  peers := { s.peers with lateFrames := 0, dualCopies := 0 }, service := { s.service with overruns := 0 } }

theorem State.counters_zeroCounters_respond (s : State) (kind : Nat) (r : Reply) :
    (s.zeroCounters.respond kind r).counters = List.replicate 14 0 := rfl

theorem State.entry_zeroCounters_respond (s : State) (kind : Nat) (r : Reply) (i : Station) :
    (s.zeroCounters.respond kind r).entry i = s.entry i := rfl

theorem State.serve_clearCounters (s : State) (arg : Nat) :
    s.serve 9 arg = ((s.clearEntries stations).zeroCounters, .ok []) := rfl

theorem exec_clearCounters {s : State} (awake : s.Awake) (idle : s.service.state = .idle) :
    exec .clearCounters s = .next ((s.clearEntries stations).zeroCounters.respond 9 (.ok [])) := by
  have port : (s.clearEntries stations).service = s.service := by rw [State.clearEntries_eq]
  refine (serviceRequest_four awake idle (by decide) rfl (State.serve_clearCounters _)).trans ?_
  rw [show s.receivedUpTo _ = s.setService _ from rfl, State.clearEntries_setService]
  simp only [State.zeroCounters, State.respond, State.setService, port]

/-! ### CLEAR_PHANTOM (R36) -/

/-- The ladder does not look at the port as it takes up a change (R174). -/
theorem State.spread_respond (s : State) (kind : Nat) (r : Reply) :
    s.spread.respond kind r = (s.respond kind r).spread := by
  refine Eq.trans ?_ (s.spread_setService _).symm
  rw [State.respond, s.spread_frame .service (by decide)]
  rfl

/-- CLEAR_PHANTOM at a PHANTOM entry: the entry becomes EMPTY but for its counters (R24, R36). -/
theorem exec_clearPhantom {s : State} (awake : s.Awake) (idle : s.service.state = .idle) {i : Station}
    (phantom : (s.entry i).state = .phantom) : exec (.clearPhantom (byteOf i.num)) s = .next
      ((s.setEntry i (PeerEntry.empty (s.entry i).lateFrames (s.entry i).dualCopies)).respond 10 (.ok [])).spread.finish := by
  have served (u : State) (same : u.entry i = s.entry i) : u.serve 10 (byteOf i.num).toNat
      = ((u.setEntry i (PeerEntry.empty (s.entry i).lateFrames (s.entry i).dualCopies)).spread.finish, .ok []) := by
    show u.serveClearPhantom _ = _
    rw [State.serveClearPhantom, toNat_byteOf (Station.num_lt i), stationOf_num]
    simp only [same, phantom, if_true]
  refine (serviceRequest_five (kind := 10) awake idle (by decide) rfl (served _ rfl)).trans ?_
  rw [State.finish_respond, State.spread_respond]
  rfl

/-- CLEAR_PHANTOM at an entry in another state (R36). -/
theorem exec_clearPhantom_notPhantom {s : State} (awake : s.Awake) (idle : s.service.state = .idle) {i : Station}
    (other : (s.entry i).state ≠ .phantom) :
    exec (.clearPhantom (byteOf i.num)) s = .next (s.respond 10 (.reject .notPhantom)) := by
  have served (u : State) (same : u.entry i = s.entry i) :
      u.serve 10 (byteOf i.num).toNat = (u, .reject .notPhantom) := by
    show u.serveClearPhantom _ = _
    rw [State.serveClearPhantom, toNat_byteOf (Station.num_lt i), stationOf_num]
    simp only [same, other, if_false]
  exact (serviceRequest_five (kind := 10) awake idle (by decide) rfl (served _ rfl)).trans rfl

/-- CLEAR_PHANTOM of a number that is no identity (R36). -/
theorem exec_clearPhantom_badArgument {s : State} (awake : s.Awake) (idle : s.service.state = .idle) {b : Byte}
    (no : b.toNat = 0 ∨ 8 < b.toNat) : exec (.clearPhantom b) s = .next (s.respond 10 (.reject .badArgument)) := by
  have unnamed : stationOf b.toNat = none := dif_neg (by omega)
  have served (u : State) : u.serve 10 b.toNat = (u, .reject .badArgument) := by
    show u.serveClearPhantom _ = _
    rw [State.serveClearPhantom, unnamed]
  exact (serviceRequest_five (kind := 10) awake idle (by decide) rfl (served _)).trans rfl

/-- Settles O52, request by request: each rewrites its own matter before it is answered. -/
theorem clearingRequestsClearTheirMatter : Obligations.ClearingRequestsClearTheirMatter := by
  intro s awake idle zero
  have rest := s.clearEntries_eq stations
  refine ⟨⟨_, exec_clearAlarms awake idle, s.mem_clearLatches, s.relay_latchThose _, s.latchThose_ascending _, rfl⟩,
    ⟨_, exec_clearCounters awake idle, State.counters_zeroCounters_respond _ _ _, fun i => ?_, ?_⟩, fun i phantom => ?_,
    fun _ => exec_clearPhantom_notPhantom awake idle, fun _ => exec_clearPhantom_badArgument awake idle⟩
  · rw [State.entry_zeroCounters_respond, State.entry_clearEntries, if_pos (show i ∈ stations from List.mem_finRange i)]
    rfl
  · generalize s.clearEntries stations = u at rest ⊢
    rw [rest]
    rfl
  · exact ⟨_, exec_clearPhantom awake idle phantom, State.spread_finish_followed rfl rfl rfl rfl⟩

end Sys2Proof.Machine
end

section
/-! The service port's bytes and gaps (R172, R173, R175): what one byte makes of the port in each receive state, what a message
makes of a port that has received its first bytes or cannot take it, and what a gap makes of a message begun. -/

namespace Sys2Proof.Machine

/-! ### One byte, by the receive state (R173, R175) -/

section
variable {s : State} {b : Byte}

theorem exec_serviceByte (awake : s.Awake) (b : Byte) : exec (.serviceByteReceived b) s = .next (s.takeByte b) :=
  whileAwake_of awake fun s => s.takeByte b

theorem State.takeByte_start (idle : s.service.state = .idle) (start : b = 0x6D) : s.takeByte b =
    { s with service := { s.service with state := .receiving, bytes := [b], gap := some (s.now + 20000) } } := by
  rw [State.takeByte, idle]
  exact if_pos start

theorem State.takeByte_astray (idle : s.service.state = .idle) (other : b ≠ 0x6D) : s.takeByte b =
    { s with service := { s.service with state := .resync, gap := some (s.now + 20000) } } := by
  rw [State.takeByte, idle]
  exact if_neg other

theorem State.takeByte_resync (resync : s.service.state = .resync) : s.takeByte b =
    { s with service := { s.service with gap := some (s.now + 20000) } } := by
  rw [State.takeByte, resync]
  rfl

theorem State.takeByte_responding (responding : s.service.state = .responding) : s.takeByte b =
    { s with service := { s.service with overrun := true } } := by
  rw [State.takeByte, responding]

theorem State.takeByte_receiving (receiving : s.service.state = .receiving) : s.takeByte b = s.receiveByte b := by
  rw [State.takeByte, receiving]

/-- The length byte of a message (R172, R173). -/
theorem State.takeByte_length {b0 : Byte} (receiving : s.service.state = .receiving) (first : s.service.bytes = [b0])
    (known : b = 4 ∨ b = 5) : s.takeByte b =
      { s with service := { s.service with bytes := [b0, b], gap := some (s.now + 20000) } } := by
  rw [State.takeByte_receiving receiving, State.receiveByte, first]
  exact if_pos known

theorem State.takeByte_badLength {b0 : Byte} (receiving : s.service.state = .receiving) (first : s.service.bytes = [b0])
    (four : b ≠ 4) (five : b ≠ 5) : s.takeByte b = { s with service := { s.service with
      state := .resync, bytes := [], badLength := true, gap := some (s.now + 20000) } } := by
  rw [State.takeByte_receiving receiving, State.receiveByte, first]
  dsimp only
  exact if_neg (not_or.2 ⟨four, five⟩)

/-- Past the length byte a byte is stored, and the last one has the message taken (R173). -/
theorem State.takeByte_later (receiving : s.service.state = .receiving) (later : 2 ≤ s.service.bytes.length) :
    s.takeByte b = if s.service.bytes.length + 1 = (s.service.bytes.getD 1 0).toNat
      then s.takeMessage (s.service.bytes ++ [b])
      else { s with service := { s.service with bytes := s.service.bytes ++ [b], gap := some (s.now + 20000) } } := by
  have lengthByte : (s.service.bytes ++ [b]).getD 1 0 = s.service.bytes.getD 1 0 :=
    List.getD_append _ _ _ _ (by omega)
  have notSecond : (s.service.bytes ++ [b]).length ≠ 2 := by
    rw [List.length_append, List.length_singleton]
    omega
  rw [State.takeByte_receiving receiving, State.receiveByte]
  dsimp only
  rw [if_neg notSecond, lengthByte, List.length_append, List.length_singleton]
  rfl

end

/-! ### The commands that bring a whole message (log entry 9) -/

/-- The command `c` brings the message that `check` closes behind `head`, of the length that its length byte gives. -/
structure Brings (c : Instr) (head : List Byte) (check : Byte) : Prop where
  runs : ∀ s, exec c s = serviceRequest (head ++ [check]) s
  form : (∃ kind, head = [0x6D#8, 4#8, kind]) ∨ ∃ kind arg, head = [0x6D#8, 5#8, kind, arg]

section
variable {c : Instr} {head : List Byte} {check : Byte} (brings : Brings c head check) {s : State}
include brings

theorem Brings.exec_eq (awake : s.Awake) : exec c s = .next (s.takeBytes (s.bytesToCome (head ++ [check]))) :=
  (brings.runs s).trans (whileAwake_of awake _)

/-- At an IDLE port the message is taken at its last byte (R173, R174). -/
theorem Brings.exec_idle (awake : s.Awake) (idle : s.service.state = .idle) :
    exec c s = .next ((s.receivedUpTo head).takeMessage (head ++ [check])) := by
  rw [brings.exec_eq awake, s.bytesToCome_idle idle]
  rcases brings.form with ⟨kind, rfl⟩ | ⟨kind, arg, rfl⟩
  · exact congrArg Host.Outcome.next (s.takeBytes_four idle kind check)
  · exact congrArg Host.Outcome.next (s.takeBytes_five idle kind arg check)

/-- A port that has received the first bytes of the message takes it as an IDLE one would (log entry 9). -/
theorem Brings.exec_rest (awake : s.Awake) (receiving : s.service.state = .receiving) (nonempty : s.service.bytes ≠ [])
    (begun : s.service.bytes <+: head) : exec c s = exec c s.portIdle := by
  have whole : s.portIdle.bytesToCome (head ++ [check]) = head ++ [check] := State.bytesToCome_idle _ rfl _
  rw [brings.exec_eq awake, brings.exec_eq (s := s.portIdle) awake, whole]
  rcases brings.form with ⟨kind, rfl⟩ | ⟨kind, arg, rfl⟩
  · exact congrArg Host.Outcome.next (s.takeBytes_rest_four receiving kind check nonempty begun)
  · exact congrArg Host.Outcome.next (s.takeBytes_rest_five receiving kind arg check nonempty begun)

/-- A port that has received all of the message but its check byte takes that byte as an IDLE one takes the message. -/
theorem Brings.exec_last (awake : s.Awake) (receiving : s.service.state = .receiving) (received : s.service.bytes = head) :
    exec (.serviceByteReceived check) s = exec c s.portIdle := by
  have completes : s.takeByte check = s.takeMessage (head ++ [check]) := by
    subst received
    have form := brings.form
    rw [State.takeByte_later receiving, if_pos]
    · rcases form with ⟨kind, e⟩ | ⟨kind, arg, e⟩ <;> simp [e]
    · rcases form with ⟨kind, e⟩ | ⟨kind, arg, e⟩ <;> simp [e]
  rw [exec_serviceByte awake, completes, brings.exec_idle (s := s.portIdle) awake rfl]
  exact congrArg Host.Outcome.next (s.takeMessage_received receiving head _ received)

/-- A port that sends a response notes the message as an overrun (R175). -/
theorem Brings.exec_responding (awake : s.Awake) (responding : s.service.state = .responding) :
    exec c s = .next { s with service := { s.service with overrun := true } } := by
  have whole : s.bytesToCome (head ++ [check]) = head ++ [check] := by simp [State.bytesToCome, responding]
  rw [brings.exec_eq awake, whole]
  rcases brings.form with ⟨kind, rfl⟩ | ⟨kind, arg, rfl⟩ <;> simp [State.takeBytes, State.takeByte, responding]

/-- A port in RESYNC lets the message pass (R173). -/
theorem Brings.exec_resync (awake : s.Awake) (resync : s.service.state = .resync) :
    exec c s = .next { s with service := { s.service with gap := some (s.now + 20000) } } := by
  have whole : s.bytesToCome (head ++ [check]) = head ++ [check] := by simp [State.bytesToCome, resync]
  rw [brings.exec_eq awake, whole]
  rcases brings.form with ⟨kind, rfl⟩ | ⟨kind, arg, rfl⟩ <;>
    simp [State.takeBytes, State.takeByte, resync, State.after, gapTime, ms]

end

/-- The 13 kinds of request, each with its bytes behind the first and before the check (R172, R174). -/
def requestsWith (a : Byte) : List (Instr × List Byte) :=
  [ (.status, [4, 1]), (.peer a, [5, 2, a]), (.ladder, [4, 3]), (.claims, [4, 4]), (.groups, [4, 5])
  , (.alarms, [4, 6]), (.counters, [4, 7]), (.clearAlarms, [4, 8]), (.clearCounters, [4, 9])
  , (.clearPhantom a, [5, 10, a]), (.inhibit a, [5, 11, a]), (.enable a, [5, 12, a]), (.restart, [4, 13])]

theorem requestsWith_brings {a : Byte} {x : Instr × List Byte} (listed : x ∈ requestsWith a) :
    Brings x.1 (0x6D :: x.2) (0 - byteSum (0x6D :: x.2)) := by
  have four (c : Instr) (kind : Byte) (runs : ∀ s, exec c s = serviceRequest (withCheck [0x6D, 4, kind]) s) :
      Brings c [0x6D, 4, kind] (0 - byteSum [0x6D, 4, kind]) := ⟨runs, .inl ⟨kind, rfl⟩⟩
  have five (c : Instr) (kind : Byte) (runs : ∀ s, exec c s = serviceRequest (withCheck [0x6D, 5, kind, a]) s) :
      Brings c [0x6D, 5, kind, a] (0 - byteSum [0x6D, 5, kind, a]) := ⟨runs, .inr ⟨kind, a, rfl⟩⟩
  simp only [requestsWith, List.mem_cons, List.not_mem_nil, or_false] at listed
  rcases listed with rfl | rfl | rfl | rfl | rfl | rfl | rfl | rfl | rfl | rfl | rfl | rfl | rfl
  · exact four _ _ fun _ => rfl
  · exact five _ _ fun _ => rfl
  · exact four _ _ fun _ => rfl
  · exact four _ _ fun _ => rfl
  · exact four _ _ fun _ => rfl
  · exact four _ _ fun _ => rfl
  · exact four _ _ fun _ => rfl
  · exact four _ _ fun _ => rfl
  · exact four _ _ fun _ => rfl
  · exact five _ _ fun _ => rfl
  · exact five _ _ fun _ => rfl
  · exact five _ _ fun _ => rfl
  · exact four _ _ fun _ => rfl

/-- The check byte of a message is the one that brings its sum to 0 (R172). -/
theorem check_of_byteSum {head : List Byte} {b : Byte} (sum : byteSum (head ++ [b]) = 0) : b = 0 - byteSum head := by
  have closes : byteSum head + b = 0 := by simpa [byteSum] using sum
  exact (BitVec.eq_sub_iff_add_eq ..).2 ((BitVec.add_comm ..).trans closes)

/-- BAD_REQUEST brings the message that it carries (R174). -/
theorem badRequest_brings {head : List Byte} {check : Byte}
    (wellFormed : (Instr.badRequest (head ++ [check])).wellFormed = true) : Brings (.badRequest (head ++ [check])) head check := by
  simp only [Instr.wellFormed, Bool.and_eq_true, Bool.or_eq_true, beq_iff_eq, Bool.not_eq_true'] at wellFormed
  obtain ⟨⟨⟨length, first⟩, counts⟩, -⟩ := wellFormed
  refine ⟨fun _ => rfl, ?_⟩
  rcases whole_request length first counts with ⟨kind, _, e⟩ | ⟨kind, arg, _, e⟩
  · exact .inl ⟨kind, (List.append_inj' (t₁ := [check]) (s₂ := [0x6D#8, 4#8, kind]) e rfl).1⟩
  · exact .inr ⟨kind, arg, (List.append_inj' (t₁ := [check]) (s₂ := [0x6D#8, 5#8, kind, arg]) e rfl).1⟩

/-- The message of a BAD_REQUEST has a last byte (R172). -/
theorem badRequest_concat {bs : List Byte} (wellFormed : (Instr.badRequest bs).wellFormed = true) :
    ∃ head check, bs = head ++ [check] := by
  rcases List.eq_nil_or_concat' bs with rfl | concat
  · simp [Instr.wellFormed] at wellFormed
  · exact concat

/-! ### The gap timer (R173) -/

theorem State.setService_frame (s : State) (p : Service) : s.keepsBut (s.setService p) [.service] :=
  fun b hb => by cases b <;> first | rfl | exact absurd (by decide) hb

theorem State.endGap_frame (s : State) : s.keepsBut s.endGap [.service] := by
  unfold State.endGap
  dsimp only
  split
  · exact s.setService_frame _
  · split <;> exact s.setService_frame _
  all_goals exact s.setService_frame _

theorem State.endGap_receiving {s : State} (receiving : s.service.state = .receiving) :
    s.endGap.service = { s.service with state := .idle, bytes := [], gap := none } := by
  simp [State.endGap, receiving]

theorem State.endGap_resync {s : State} (resync : s.service.state = .resync) (good : s.service.badLength = false) :
    s.endGap.service = { s.service with state := .idle, gap := none } := by
  simp [State.endGap, resync, good]

theorem State.endGap_badLength {s : State} (resync : s.service.state = .resync) (bad : s.service.badLength = true) :
    s.endGap.service = { s.service with state := .responding, bytes := [], badLength := false, gap := none
                                        response := responseBytes 0 (.reject .badRequest) } := by
  simp [State.endGap, resync, bad, State.respond]

/-- Settles O55, from one byte by the receive state, from the commands that bring a whole message, and from the gap timer. -/
theorem bytesAndGapsMoveThePort : Obligations.BytesAndGapsMoveThePort := by
  intro s awake p moved gap idle requests
  refine ⟨fun b => ?_, fun a b x listed receiving => ⟨fun received sum => ?_, fun nonempty begun => ?_⟩,
    fun b receiving wellFormed => ?_, fun bytes receiving wellFormed nonempty begun short => ?_,
    fun a x listed => ?_, fun bytes wellFormed => ?_, fun d running => ?_⟩
  · rw [exec_serviceByte awake]
    refine ⟨fun idle start => ?_, fun idle other => ?_, fun b0 receiving first known => ?_,
      fun b0 receiving first four five => ?_, fun receiving later more => ?_, fun resync => ?_, fun responding => ?_⟩
    · exact congrArg Host.Outcome.next (State.takeByte_start idle start)
    · exact congrArg Host.Outcome.next (State.takeByte_astray idle other)
    · exact congrArg Host.Outcome.next (State.takeByte_length receiving first known)
    · exact congrArg Host.Outcome.next (State.takeByte_badLength receiving first four five)
    · exact congrArg Host.Outcome.next ((State.takeByte_later receiving later).trans (if_neg more))
    · exact congrArg Host.Outcome.next (State.takeByte_resync resync)
    · exact congrArg Host.Outcome.next (State.takeByte_responding responding)
  · rw [received] at sum
    rw [check_of_byteSum sum]
    exact (requestsWith_brings listed).exec_last awake receiving received
  · exact (requestsWith_brings listed).exec_rest awake receiving nonempty begun
  · have brings := badRequest_brings wellFormed
    have answered := exec_badRequest (s := s.portIdle) awake rfl wellFormed
    rw [brings.exec_last awake receiving rfl, answered]
    have kind : (p.bytes ++ [b]).getD 2 0 = p.bytes.getD 2 0 := by
      rcases brings.form with ⟨kind, e⟩ | ⟨kind, arg, e⟩ <;> simp [e]
    rw [kind]
    rfl
  · obtain ⟨head, check, rfl⟩ := badRequest_concat wellFormed
    refine (badRequest_brings wellFormed).exec_rest awake receiving nonempty ?_
    rcases List.prefix_concat_iff.1 begun with all | begun
    · rw [all] at short
      exact absurd short (lt_irrefl _)
    · exact begun
  · exact ⟨(requestsWith_brings listed).exec_responding awake, (requestsWith_brings listed).exec_resync awake⟩
  · obtain ⟨head, check, rfl⟩ := badRequest_concat wellFormed
    exact ⟨(badRequest_brings wellFormed).exec_responding awake, (badRequest_brings wellFormed).exec_resync awake⟩
  · refine ⟨(s.advanceTo d).endGap, onExpiry_of awake running _, State.endGap_frame _, fun receiving => ?_,
      fun resync good => ?_, fun resync bad => ?_⟩
    · exact State.endGap_receiving (s := s.advanceTo d) receiving
    · exact State.endGap_resync (s := s.advanceTo d) resync good
    · exact State.endGap_badLength (s := s.advanceTo d) resync bad

end Sys2Proof.Machine
end

section
/-! The step: the command at the front of the queue and the passing of time without one (log entry 3), and what no command
touches. -/

namespace Sys2Proof.Machine

/-! ### One step (log entry 3) -/

/-- Settles O1, by the step's own case of a waiting command. -/
theorem stepRunsFrontCommand : Obligations.StepRunsFrontCommand := by
  intro s c rest waiting
  rw [step, waiting]

theorem step_of_idle {s : State} (idle : s.pending = []) : step s = .next s.idle := by
  rw [step, idle]

/-- A running minimum is the least of its start and what it ran over. -/
theorem isLeast_foldl_min (a : Nat) (ds : List Nat) : IsLeast {e | e = a ∨ e ∈ ds} (ds.foldl min a) := by
  obtain ⟨reached, least⟩ := List.min?_eq_some_iff.1 (List.min?_cons' (x := a) (xs := ds))
  exact ⟨List.mem_cons.1 reached, fun e mem => least e (List.mem_cons.2 mem)⟩

/-- Counting moves the byte counter alone (R4). -/
theorem LaneIf.countBytes_eq (l : LaneIf) (now : Nat) :
    l.countBytes now = { l with byteCounter := (l.countBytes now).byteCounter } := by
  unfold LaneIf.countBytes
  split <;> rfl

/-- Settles O2, from the running minimum of the deadlines, and from what a lane counts as the clock moves. -/
theorem idleStepLetsTimePass : Obligations.IdleStepLetsTimePass := by
  refine ⟨fun s idle => ⟨_, step_of_idle idle, isLeast_foldl_min _ _⟩, fun s d => ⟨rfl, s.advanceTo_frame d, fun l => ?_⟩⟩
  rw [s.advanceTo_lane]
  exact (s.lane l).countBytes_eq _

/-! ### Commands that complete and leave the queue -/

/-- A command ends in a state, and the queue in it is that of `s`. -/
def State.KeepsQueueIn (s : State) (r : Result) : Prop := ∃ t, r = .next t ∧ t.pending = s.pending

section
variable {s t : State} {bs : List Block}

theorem State.keepsBut.pending (h : s.keepsBut t bs) (apart : .queue ∉ bs := by decide) : t.pending = s.pending :=
  h .queue apart

theorem State.keepsBut.finish_pending (h : s.keepsBut t bs) (apart : .queue ∉ bs := by decide) :
    t.finish.pending = s.pending :=
  (State.finish_pending t).trans (h.pending apart)

theorem State.ite_pending {u : State} {c : Prop} [Decidable c] (h : t.pending = s.pending) (k : u.pending = s.pending) :
    (if c then t else u).pending = s.pending := by
  split
  · exact h
  · exact k

theorem next_keepsQueue (h : t.pending = s.pending) : s.KeepsQueueIn (.next t) := ⟨t, rfl, h⟩

theorem whileAwake_keepsQueue {f : State → State} (h : (f s).pending = s.pending) : s.KeepsQueueIn (whileAwake s f) :=
  next_keepsQueue (State.ite_pending h rfl)

theorem onExpiry_keepsQueue {timer : Timer} {f : State → State} (h : ∀ u : State, (f u).pending = u.pending) :
    s.KeepsQueueIn (onExpiry s timer f) := by
  unfold onExpiry
  split
  · exact next_keepsQueue rfl
  · next d => exact next_keepsQueue (State.ite_pending (h (s.advanceTo d)) rfl)

/-- An input's new level, with what the card makes of the edge where it takes it (R75). -/
theorem level_keepsQueue {p : Pins} {taken : Prop} [Decidable taken] (h : t.pending = s.pending) :
    s.KeepsQueueIn (.next (if taken then t else { s with pins := p })) :=
  next_keepsQueue (State.ite_pending h rfl)

/-- The edge of an input that moves where its level differs (R75). -/
theorem edge_keepsQueue {p : Pins} {still taken : Prop} [Decidable still] [Decidable taken] (h : t.pending = s.pending) :
    s.KeepsQueueIn (if still then .next s else .next (if taken then t else { s with pins := p })) := by
  split
  · exact next_keepsQueue rfl
  · exact level_keepsQueue h

/-- The edge of an input that falls: it moves where the level is high (R75). -/
theorem fallingEdge_keepsQueue {p : Pins} {moves taken : Prop} [Decidable moves] [Decidable taken]
    (h : t.pending = s.pending) :
    s.KeepsQueueIn (if moves then .next (if taken then t else { s with pins := p }) else .next s) := by
  split
  · exact level_keepsQueue h
  · exact next_keepsQueue rfl

end

/-! ### Power and the modes (Section 10) -/

theorem execLoadTimeout_keepsQueue (straps : StrapPins) (image : List Word) (s : State) :
    s.KeepsQueueIn (execLoadTimeout straps image s) := by
  unfold execLoadTimeout
  split
  · exact next_keepsQueue rfl
  · exact next_keepsQueue (State.ite_pending (State.enterListen_frame _ straps _).pending rfl)

theorem State.enterRun_pending (s : State) : s.enterRun.pending = s.pending := by
  obtain ⟨u, ends, within⟩ := s.enterRun_within
  rw [ends]
  exact within.finish_pending

/-! ### The link (Section 1) -/

theorem execReceptionBegins_keepsQueue (l : LaneId) (s : State) : s.KeepsQueueIn (execReceptionBegins l s) := by
  refine whileAwake_keepsQueue ?_
  split
  · rfl
  · exact State.ite_pending rfl (State.setLane_pending _ l _)

theorem State.takeDuplicate_pending (s : State) : s.takeDuplicate.pending = s.pending := by
  unfold State.takeDuplicate
  split
  · exact State.finish_pending _
  all_goals rfl

theorem State.takeGoodFrame_pending (s : State) (l : LaneId) (f : Frame) (inSend : Bool) :
    (s.takeGoodFrame l f inSend).pending = s.pending := by
  have counts (x : LaneIf) : (s.setLane l x).pending = s.pending := s.setLane_pending l x
  unfold State.takeGoodFrame
  dsimp only
  split
  · split
    · exact counts _
    · exact (State.takeDuplicate_pending _).trans (counts _)
  · exact ((State.queueFrame_frame _ l f).pending.trans (State.hearPeer_frame _ l).pending).trans (counts _)

theorem execReceptionEnd_keepsQueue (l : LaneId) (rx : Reception) (s : State) :
    s.KeepsQueueIn (execReceptionEnd l rx s) := by
  have ends (x : LaneIf) : (s.setLane l x).pending = s.pending := s.setLane_pending l x
  refine whileAwake_keepsQueue ?_
  dsimp only
  split
  · rfl
  · split
    · exact ends _
    · split
      · exact (State.setLane_pending _ l _).trans (ends _)
      · exact (State.takeGoodFrame_pending _ l _ _).trans (ends _)

theorem execSendStart_keepsQueue (l : LaneId) (s : State) : s.KeepsQueueIn (execSendStart l s) := by
  refine whileAwake_keepsQueue ?_
  split
  · exact State.ite_pending rfl (State.setLane_pending _ l _)
  · rfl

theorem execFrameComplete_keepsQueue (l : LaneId) (s : State) : s.KeepsQueueIn (execFrameComplete l s) := by
  refine whileAwake_keepsQueue ?_
  split
  · rfl
  · exact State.setLane_pending _ l _

/-! ### The peers (Section 2) -/

theorem State.takeIn_pending (s : State) (l : LaneId) (f : Frame) : (s.takeIn l f).pending = s.pending := by
  cases decided : verdict (s.entry f.station) f.number with
  | accepted =>
    rw [State.takeIn_accepted decided]
    exact (State.takeUp_within _ _).finish_pending
  | dualCopy =>
    rw [State.takeIn_dualCopy decided]
    rfl
  | lateFrame =>
    rw [State.takeIn_lateFrame decided]
    rfl

theorem execIntake_keepsQueue (s : State) : s.KeepsQueueIn (execIntake s) := by
  refine whileAwake_keepsQueue ?_
  split
  · rfl
  · exact State.takeIn_pending _ _ _

/-! ### Metering, the groups and the ladder (Sections 4, 7 and 8) -/

theorem State.deliver_pending (s : State) (r : MeterRecord) : (s.deliver r).pending = s.pending :=
  (State.stepStages_frame _ _ r).finish_pending.trans (State.takeNotice_frame _ _).pending

theorem execMeteringIntervalExpiry_keepsQueue (m : Measurement) (s : State) :
    s.KeepsQueueIn (execMeteringIntervalExpiry m s) := by
  refine onExpiry_keepsQueue fun u => ?_
  dsimp only
  split
  · split
    · rfl
    · exact State.deliver_pending _ _
  · rfl

theorem execConfirmationWindowExpiry_keepsQueue (i : Fin 6) (s : State) :
    s.KeepsQueueIn (execConfirmationWindowExpiry i s) := by
  refine onExpiry_keepsQueue fun u => ?_
  dsimp only
  split
  · rfl
  · exact (State.raise_frame _ .groupFail).finish_pending.trans (u.setChannel_groupState_within i _ _).pending

theorem execHandoffTimerExpiry_keepsQueue (s : State) : s.KeepsQueueIn (execHandoffTimerExpiry s) := by
  refine onExpiry_keepsQueue fun u => ?_
  split
  · rfl
  · exact (State.nextStep_frame _).finish_pending.trans (State.takeStep_frame _).pending

/-! ### The service port (Section 11) -/

/-- INHIBIT and ENABLE where they change a group's state (R119, R120). -/
theorem State.clearMarks_pending (s : State) (i : Fin 6) (st : GroupState) :
    ((s.clearMarks i).setGroupState i st).finish.pending = s.pending :=
  (s.setChannel_groupState_within i _ st).finish_pending

theorem State.serveClearCounters_pending (s : State) : s.serveClearCounters.1.pending = s.pending := by
  have clears (u : State) (i : Station) : u.keepsBut (u.setEntry i (u.entry i).clearCounters) [.peers] :=
    u.setEntry_frame i _
  have cleared := State.keepsBut.foldl clears stations s
  exact cleared.pending

theorem State.serveClearPhantom_pending (s : State) (arg : Nat) : (s.serveClearPhantom arg).1.pending = s.pending := by
  unfold State.serveClearPhantom
  split
  · rfl
  · split
    · exact (State.spread_frame _).finish_pending
    · rfl

theorem State.serveInhibit_pending (s : State) (arg : Nat) : (s.serveInhibit arg).1.pending = s.pending := by
  unfold State.serveInhibit
  split
  case h_1 | h_2 | h_3 | h_4 => rfl
  all_goals exact s.clearMarks_pending _ _

theorem State.serveEnable_pending (s : State) (arg : Nat) : (s.serveEnable arg).1.pending = s.pending := by
  unfold State.serveEnable
  split
  · rfl
  · exact s.clearMarks_pending _ _
  · rfl

theorem State.serveRestart_pending (s : State) : s.serveRestart.1.pending = s.pending := by
  unfold State.serveRestart
  split <;> rfl

theorem State.serve_pending (s : State) (kind arg : Nat) : (s.serve kind arg).1.pending = s.pending := by
  unfold State.serve
  split
  case h_2 => rw [State.servePeer_fst]
  case h_9 => exact s.serveClearCounters_pending
  case h_10 => exact s.serveClearPhantom_pending arg
  case h_11 => exact s.serveInhibit_pending arg
  case h_12 => exact s.serveEnable_pending arg
  case h_13 => exact s.serveRestart_pending
  all_goals rfl

theorem State.takeMessage_pending (s : State) (bs : List Byte) : (s.takeMessage bs).pending = s.pending := by
  unfold State.takeMessage
  dsimp only
  split
  · exact s.serve_pending _ _
  · rfl

theorem State.receiveByte_pending (s : State) (b : Byte) : (s.receiveByte b).pending = s.pending := by
  unfold State.receiveByte
  dsimp only
  split
  · split <;> rfl
  · split
    · exact s.takeMessage_pending _
    · rfl

theorem State.takeByte_pending (s : State) (b : Byte) : (s.takeByte b).pending = s.pending := by
  unfold State.takeByte
  split
  · split <;> rfl
  · exact s.receiveByte_pending b
  all_goals rfl

theorem State.takeBytes_pending (bs : List Byte) (s : State) : (s.takeBytes bs).pending = s.pending := by
  induction bs generalizing s with
  | nil => rfl
  | cons b bs ih => exact (ih _).trans (s.takeByte_pending b)

theorem serviceRequest_keepsQueue (bs : List Byte) (s : State) : s.KeepsQueueIn (serviceRequest bs s) :=
  whileAwake_keepsQueue (s.takeBytes_pending _)

theorem execResponseSent_keepsQueue (s : State) : s.KeepsQueueIn (execResponseSent s) := by
  refine whileAwake_keepsQueue ?_
  split
  · split
    · split
      · rfl
      · rw [State.endResponse_eq]
    · rw [State.endResponse_eq]
  · rfl

/-! ### Every command -/

/-- Every command completes and leaves the queue. -/
theorem exec_keepsQueue (c : Instr) (s : State) : s.KeepsQueueIn (exec c s) := by
  cases c with unfold exec
  | powerOn | lossOfPower => exact next_keepsQueue rfl
  | loadReadDone straps image => exact next_keepsQueue (State.ite_pending (s.enterListen_frame straps image).pending rfl)
  | loadTimeout straps image => exact execLoadTimeout_keepsQueue straps image s
  | listenTimerExpiry => exact onExpiry_keepsQueue fun _ => State.enterRun_pending _
  | receptionBegins l => exact execReceptionBegins_keepsQueue l s
  | receptionEnd l rx => exact execReceptionEnd_keepsQueue l rx s
  | sendStart l => exact execSendStart_keepsQueue l s
  | frameComplete l => exact execFrameComplete_keepsQueue l s
  | collision l | driverTestLaneIdle l | isolatedLaneIdle l | stuckEnd l =>
    exact whileAwake_keepsQueue (State.ite_pending (s.setLane_pending l _) rfl)
  | stuckEntry l => exact whileAwake_keepsQueue (State.ite_pending rfl (s.setLane_pending l _))
  | jamEnd l | backoffExpiry l | driverTestExpiry l | errorWindowExpiry l | silenceTimerExpiry l =>
    exact onExpiry_keepsQueue fun u => u.setLane_pending l _
  | frameTimerExpiry => exact onExpiry_keepsQueue fun _ => (State.request_frame _ _).finish_pending
  | spacingTimerExpiry => exact onExpiry_keepsQueue fun _ => State.finish_pending _
  | intake => exact execIntake_keepsQueue s
  | entryTimer350 | entryTimer1000 => exact onExpiry_keepsQueue fun _ => (State.spread_frame _).finish_pending
  | lanesHeardExpiry => exact onExpiry_keepsQueue fun _ => rfl
  | tieInputChange => exact edge_keepsQueue (State.ite_pending rfl rfl)
  | tieFilterExpiry => exact onExpiry_keepsQueue fun _ => (State.spread_frame _).finish_pending
  | returnTimerExpiry => exact onExpiry_keepsQueue fun _ => State.settle_pending _
  | meteringIntervalExpiry m => exact execMeteringIntervalExpiry_keepsQueue m s
  | breakerCloseEdge => exact edge_keepsQueue (State.breakerCloses_within _).finish_pending
  | breakerOpenEdge => exact fallingEdge_keepsQueue (State.breakerOpens_within _).finish_pending
  | runningEdge => exact edge_keepsQueue rfl
  | availableEdge =>
    refine edge_keepsQueue ((State.finish_pending _).trans (State.ite_pending ?_ ?_))
    · exact (State.availableRises_within _).pending
    · exact (State.availableFalls_within _).pending
  | unloadEdge => exact edge_keepsQueue (State.unloadRises_within _).finish_pending
  | startTimerExpiry =>
    exact onExpiry_keepsQueue fun u => (State.raise_frame _ _).finish_pending.trans (u.leaveStarting_frame _).pending
  | unloadTimerExpiry | openingTimerExpiry =>
    exact onExpiry_keepsQueue fun u => (State.raise_frame _ _).finish_pending.trans u.returnToSharing_frame.pending
  | setPulseEnd which => exact onExpiry_keepsQueue fun u => (u.endSetPulse_frame which).pending
  | evaluation => exact onExpiry_keepsQueue fun _ => (State.evaluate_within _).finish_pending
  | tripRecentTimerExpiry | closeSpacingExpiry | actionAgeTick | claimAgeTick => exact onExpiry_keepsQueue fun _ => rfl
  | feedbackEdge i closed => exact edge_keepsQueue (State.takeEdge_within i closed _).finish_pending
  | confirmationWindowExpiry i => exact execConfirmationWindowExpiry_keepsQueue i s
  | groupPulseEnd i which => exact onExpiry_keepsQueue fun u => (u.endGroupPulse_frame i which).pending
  | handoffTimerExpiry => exact execHandoffTimerExpiry_keepsQueue s
  | restoreCheck => exact onExpiry_keepsQueue fun _ => (State.restoreCheck_within _).finish_pending
  | requestRising n => exact edge_keepsQueue (State.takeRequest_frame _ n).finish_pending
  | requestFalling n => exact fallingEdge_keepsQueue (State.setClaimState_frame _ n _).finish_pending
  | claimWindowExpiry n => exact onExpiry_keepsQueue fun u => (u.judgeWindow_frame n).finish_pending
  | retestTimerExpiry =>
    exact onExpiry_keepsQueue fun _ => (State.keepsBut.foldl State.retestClaim_frame _ _).finish_pending
  | waitingTimerExpiry n => exact onExpiry_keepsQueue fun u => (u.waitedOut_within n).finish_pending
  | holdTimerExpiry n => exact onExpiry_keepsQueue fun u => (u.setClaimState_frame n _).finish_pending
  | serviceGapExpiry => exact onExpiry_keepsQueue fun u => u.endGap_frame.pending
  | responseSent => exact execResponseSent_keepsQueue s
  | serviceByteReceived b => exact whileAwake_keepsQueue (s.takeByte_pending b)
  | badRequest | status | peer | ladder | claims | groups | alarms | counters | clearAlarms | clearCounters | clearPhantom
  | inhibit | enable | restart => exact serviceRequest_keepsQueue _ s

/-- Settles O3, from what every command leaves. -/
theorem everyCommandCompletes : Obligations.EveryCommandCompletes := exec_keepsQueue

end Sys2Proof.Machine
end
